-- ==== Sys2Proof/Word.lean ====
section
/-! DEFINITION. The words of the pcie_screamer link core and the payload formats of its channels
(spec/00_scope.md R5, R9; spec/30_encoding.md R96 to R99). Plain data only. -/

namespace Sys2Proof

/-- A 32-bit link word, `LINK_DW` of R5. -/
abbrev Word := BitVec 32

/-- An 8-bit destination tag, `TAG_W` of R5. -/
abbrev Tag := BitVec 8

/-- The data of a 64-bit TLP lane, `TLP_DW` of R5. -/
abbrev LaneData := BitVec 64

/-- The byte-enable mask of a lane, `BE_W` of R5; bit `i` covers byte `i` (R69). -/
abbrev ByteEnable := BitVec 8

/-- The fixed preamble word (R5, R91). -/
def preamble : Word := 0x5AA55AA5

/-- Format `UP` (R98): one payload word of a Link Packet with its packet parameters. -/
structure UpWord where
  data   : Word
  last   : Bool
  dst    : Tag
  length : Word
  deriving DecidableEq, Repr, Inhabited

/-- Format `LWL` (R97): a link word with the `last` flag. -/
structure LastWord where
  data : Word
  last : Bool
  deriving DecidableEq, Repr, Inhabited

/-- Format `LANE` (R99): one TLP lane. -/
structure Lane where
  data : LaneData
  be   : ByteEnable
  last : Bool
  deriving DecidableEq, Repr, Inhabited

/-- An entry of `tls.q` (R42): a lane without its `last` flag. -/
structure LaneEntry where
  data : LaneData
  be   : ByteEnable
  deriving DecidableEq, Repr, Inhabited

/-- A Link Word Channel during one tick (R120): the producer's `valid` and payload, the consumer's
`ready`, and the flag `xfer` that the channel operation of the tick drives (R124 to R126). -/
structure Chan (α : Type) where
  valid : Bool
  ready : Bool
  xfer  : Bool
  pay   : α
  deriving DecidableEq, Repr, Inhabited

/-- The lower half of a lane, bits 31:0 (R68). -/
def lowerHalf (d : LaneData) : Word := d.extractLsb' 0 32

/-- The upper half of a lane, bits 63:32 (R68). -/
def upperHalf (d : LaneData) : Word := d.extractLsb' 32 32

/-- `{hi, lo}`: the lane whose upper half is `hi` and whose lower half is `lo` (R9, R68). -/
def joinHalves (hi lo : Word) : LaneData := hi ++ lo

end Sys2Proof
end

