-- ==== Sys2Proof/Syntax.lean ====
section
/-! DEFINITION. The operations of the link core: one constructor of `Instr` per row of
spec/opcode_table.json (spec/30_encoding.md section 4), and the names of the channels, FIFOs and
sites an operation acts on. An operand named by a lower-case letter is the don't-care bit that the
row's pattern names with that letter. -/

namespace Sys2Proof

/-- The channels of the assembly (R310 to R314). A connection of R312 or R313 is one channel with
two names, and stands here once. -/
inductive ChanId where
  | linkRx              -- link_rx
  | rxqSink             -- rxq.sink
  | txqSource           -- txq.source
  | linkTx              -- link_tx
  | dpkSink             -- rxq.source = dpk.sink
  | dpkSource           -- dpk.source = m_rx
  | inPort (i : Nat)    -- in[i] (= tlr.in for the TLP port)
  | tlpRxOut            -- tlp_rx_out
  | tlpTxIn             -- tlp_tx_in
  | outPort (i : Nat)   -- out[i] (= tls.out for the TLP port)
  | mTx                 -- m_tx = pkt.sink
  | pktSource           -- pkt.source = txq.sink
  deriving DecidableEq, Repr, Inhabited

/-- The two cross-domain FIFOs (R42). -/
inductive CrossFifo where
  | rxq
  | txq
  deriving DecidableEq, Repr, Inhabited

/-- The three FIFOs (R42). -/
inductive FifoId where
  | rxq
  | txq
  | tlsq
  deriving DecidableEq, Repr, Inhabited

/-- The position of a link word in a frame (R90). -/
inductive FramePos where
  | w0
  | w1
  | w2
  | payload
  deriving DecidableEq, Repr, Inhabited

/-- A place of the link core whose operation a word selects: a channel, a FIFO, a component, a
reset input (R100 to R109), the frame word on `dpk.sink` (R90), a synchroniser step (R131) or a
step of the elaboration (R320). -/
inductive Site where
  | lp (k : FramePos)
  | ch (c : ChanId)
  | fq (q : FifoId)
  | sync (q : CrossFifo) (v f : Nat)
  | lbf
  | pkt
  | dpk
  | xd
  | xa
  | tls
  | tlr
  | rstLink
  | rstSys
  | regPort (t : Tag)
  deriving DecidableEq, Repr, Inhabited

/-- What a site presents to the decoder: the bits of a control word, most significant first as in a
pattern of spec/30_encoding.md R100, or a 32-bit word of a frame (R90). -/
inductive Raw where
  | bits (b : List Bool)
  | frame (w : Word)
  deriving DecidableEq, Repr, Inhabited

/-- The operations, in the order of spec/opcode_table.json. -/
inductive Instr where
  -- Link Packet wire format (R91 to R94)
  | lpW0
  | lpW1 (reserved : BitVec 24) (dst : Tag)
  | lpW2 (length : Word)
  | lpPayload (data : Word)
  -- Link Word Channel (R124 to R126)
  | chIdle (c : ChanId) (r : Bool)
  | chStall (c : ChanId)
  | chXfer (c : ChanId)
  -- FIFOs (R127 to R131)
  | fifoNop (q : FifoId)
  | fifoPush (q : FifoId)
  | fifoPop (q : FifoId)
  | fifoPushPop (q : FifoId)
  | afifoSync (q : CrossFifo) (v f : Nat)
  -- Link-Bus FSM (R148 to R157)
  | lbfRxStayNotx (r t : Bool)
  | lbfRxStayBusy
  | lbfRxYield (t : Bool)
  | lbfRxTimeout
  | lbfR2t (w r t : Bool)
  | lbfTxStayNorx (w t : Bool)
  | lbfTxStayBusy
  | lbfTxYield (t : Bool)
  | lbfTxTimeout
  | lbfT2r (w r t : Bool)
  -- Packetizer (R174 to R183)
  | pktIdleWait (h1 h0 l r : Bool)
  | pktStart (h1 h0 l r : Bool)
  | pktHdrStall (h1 h0 v l : Bool)
  | pktHdrW0 (v l : Bool)
  | pktHdrW1 (v l : Bool)
  | pktHdrW2 (v l : Bool)
  | pktCopyIdle (h1 h0 l r : Bool)
  | pktCopyStall (h1 h0 l : Bool)
  | pktCopyXfer (h1 h0 : Bool)
  | pktCopyLast (h1 h0 : Bool)
  -- Depacketizer (R197 to R208)
  | dpkIdleWait (t h p l r : Bool)
  | dpkIdleDrop (t h l r : Bool)
  | dpkIdleSync (t h l r : Bool)
  | dpkHdrWait (h p l r : Bool)
  | dpkHdrDst (p l r : Bool)
  | dpkHdrLen (p l r : Bool)
  | dpkHdrAbort (h v p l r : Bool)
  | dpkCopyWait (h p l r : Bool)
  | dpkCopyStall (h p l : Bool)
  | dpkCopyXfer (h p : Bool)
  | dpkCopyLast (h p : Bool)
  | dpkCopyAbort (h v p l r : Bool)
  -- Crossbar, dispatch (R233 to R237)
  | xdIdle (h l r : Bool)
  | xdRouteStall (l : Bool)
  | xdRouteXfer (l : Bool)
  | xdDropWord (r : Bool)
  | xdDropLast (r : Bool)
  -- Crossbar, arbiter (R241 to R247)
  | xaPark (l r : Bool)
  | xaSwitchIdle (l r : Bool)
  | xaWait (l r o : Bool)
  | xaStall (l o : Bool)
  | xaXfer (o : Bool)
  | xaEndPark
  | xaEndSwitch
  -- TLP Sender (R266 to R274)
  | tlsFillWait (l f h u w r : Bool)
  | tlsFillPush (h u w r : Bool)
  | tlsFillCloseLast (f h u w r : Bool)
  | tlsFillCloseFull (h u w r : Bool)
  | tlsSendStall (v l f h u w : Bool)
  | tlsSendLowMore (v l f : Bool)
  | tlsSendLowPop (v l f : Bool)
  | tlsSendHighPop (v l f u : Bool)
  | tlsSendLast (v l f h u : Bool)
  -- TLP Receiver (R294 to R299)
  | tlrIdle (h l r : Bool)
  | tlrTakeLow (r : Bool)
  | tlrSingleStall
  | tlrSingleEmit
  | tlrPairStall (l : Bool)
  | tlrPairEmit (l : Bool)
  -- system operations (R318 to R320)
  | resetLink
  | resetSys
  | xbarRegisterPort (t : Tag)
  deriving DecidableEq, Repr, Inhabited

end Sys2Proof
end

