-- ==== Sys2Proof/Config.lean ====
section
/-! DEFINITION. The configuration record of spec/00_scope.md R5, the inputs the environment drives
(R12, R13; spec/47_assembly.md R314), and the free values: opaque constants without a body for what
the spec leaves OPEN or `any value`. -/

namespace Sys2Proof

/-- The configuration record (R5). The FIXED fields of R5 are the types of Word.lean, `preamble`
and the constant `tlpMinLength`; the header of a frame has the three positions `w0`, `w1`, `w2`. -/
structure Cfg where
  tRx : Nat
  tTx : Nat
  depackTimeout : Nat
  depackTimerRestartOnWord : Bool
  /-- `TAGS`: the port table keys in registration order; `N_PORTS` is its length. -/
  tags : List Tag
  tlpTag : Tag
  rxqDepth : Nat
  txqDepth : Nat
  tlpTxqDepth : Nat
  deriving DecidableEq, Repr, Inhabited

/-- `TLP_MIN_LENGTH` (R5, R262). -/
def tlpMinLength : Nat := 1

/-- `N_PORTS` (R5). -/
def Cfg.nPorts (c : Cfg) : Nat := c.tags.length

/-- The index `p` of the port with `TAGS[p] == TLP_TAG` (R312). -/
def Cfg.tlpPort (c : Cfg) : Nat := c.tags.idxOf c.tlpTag

/-- The constraints of R5 (R321): a configuration that breaks one is refused before any tick. -/
def Cfg.admitted (c : Cfg) : Bool :=
  decide c.tags.Nodup && decide (c.tlpTag ∈ c.tags) && decide (1 ≤ c.depackTimeout) &&
    decide (1 ≤ c.rxqDepth) && decide (1 ≤ c.txqDepth) && decide (1 ≤ c.tlpTxqDepth)

/-- The environment's signals in a link tick (R314): reset input, `link_rx` offer, `link_tx.ready`. -/
structure LinkIn where
  rst     : Bool
  rxValid : Bool
  rxData  : Word
  txReady : Bool
  deriving DecidableEq, Repr, Inhabited

/-- The environment's signals at one user port in a system tick (R314): the offer on `out[i]` and
`in[i].ready`. At the TLP port the assembly drives both and this record is not read (R312, R313). -/
structure PortIn where
  outValid : Bool
  outPay   : UpWord
  inReady  : Bool
  deriving DecidableEq, Repr, Inhabited

/-- The environment's signals in a system tick (R314). A port with no entry in `ports` offers
nothing and is not ready. -/
structure SysIn where
  rst         : Bool
  tlpTxValid  : Bool
  tlpTx       : Lane
  tlpRxReady  : Bool
  ports       : List PortIn
  deriving DecidableEq, Repr, Inhabited

/-- What happens next (R7, R12, R13): a tick of the link domain, of the system domain or of both at
one instant, or a step of a cross-domain FIFO's synchroniser (R131). The type also admits a tick of
neither domain, which the spec does not have: DESIGN CHOICE, log entry 25. -/
inductive Event where
  | tick (link : Option LinkIn) (sys : Option SysIn)
  | sync (q : CrossFifo) (v f : Nat)
  deriving DecidableEq, Repr, Inhabited

/-- `T_RX` of the instance: OPEN in R5. -/
opaque Config.tRx : Nat

/-- `T_TX` of the instance: OPEN in R5. -/
opaque Config.tTx : Nat

/-- `DEPACK_TIMEOUT - 1` of the instance: OPEN in R5, the timeout being at least 1. -/
opaque Config.depackTimeoutLess1 : Nat

/-- `RXQ_DEPTH - 1` of the instance: OPEN in R5, the depth being at least 1. -/
opaque Config.rxqDepthLess1 : Nat

/-- `TXQ_DEPTH - 1` of the instance: OPEN in R5, the depth being at least 1. -/
opaque Config.txqDepthLess1 : Nat

/-- `TLP_TXQ_DEPTH - 1` of the instance: OPEN in R5, the depth being at least 1. -/
opaque Config.tlpTxqDepthLess1 : Nat

/-- The environment's free choice once no event is placed in the state (R13): the event that opens
when `n` events have been opened before it. -/
opaque Config.envEvent : Nat → Event

/-- The payload on a word channel whose `valid` is 0 or whose FIFO holds nothing (item 15 of
spec/93_implementation_defined.md: `any value`), by channel and number of opened events. -/
opaque Config.idleWord : ChanId → Nat → Word

/-- The same for a channel of format `UP`. -/
opaque Config.idleUp : ChanId → Nat → UpWord

/-- The same for `pkt.source`. -/
opaque Config.idleLast : Nat → LastWord

/-- The payload of a channel that is off: one in a reset tick or a domain that does not tick, one of
the start state, or one that no port has (item 15 of spec/93_implementation_defined.md: `any value`;
log entry 28). -/
opaque Config.offPayload {α : Type} [Inhabited α] : α

/-- `head(tls.q)` of an empty `tls.q`, which R10 does not define. -/
opaque Config.noLane : Nat → LaneEntry

/-- `tls.out.length` for a packet of `n` words that 32 bits cannot count: R264 states no value there
(log entry 22). -/
opaque Config.longLength : Nat → Word

/-- The configuration of State.reset: the defaults of R5 and R322, OPEN fields free. -/
def Cfg.atReset : Cfg where
  tRx := Config.tRx
  tTx := Config.tTx
  depackTimeout := Config.depackTimeoutLess1 + 1
  depackTimerRestartOnWord := false
  tags := [0, 1]
  tlpTag := 1
  rxqDepth := Config.rxqDepthLess1 + 1
  txqDepth := Config.txqDepthLess1 + 1
  tlpTxqDepth := Config.tlpTxqDepthLess1 + 1

end Sys2Proof
end

