-- ==== Sys2Proof/WellFormed.lean ====
section
/-! DEFINITION. Which operations a control word can select: the words of spec/30_encoding.md R110
select none, so an operation whose don't-care bits spell one is ill formed. -/

namespace Sys2Proof

/-- The don't-care bits of the operation spell no unreachable control word of R110: `pkt.hidx` is
never 3 and is 0 outside `INSERT_HEADER`; `dpk.timer_done` is 0 in `IDLE`; `tls.half == 0`,
`tls.uh == 1` and `tls.lastw == 1` never hold together in `SEND` (R275). The other operations have
no such word. -/
def wellFormed : Instr → Bool
  | .pktIdleWait h1 h0 _ _ => !h1 && !h0
  | .pktStart h1 h0 _ _ => !h1 && !h0
  | .pktHdrStall h1 h0 _ _ => !(h1 && h0)
  | .pktCopyIdle h1 h0 _ _ => !h1 && !h0
  | .pktCopyStall h1 h0 _ => !h1 && !h0
  | .pktCopyXfer h1 h0 => !h1 && !h0
  | .pktCopyLast h1 h0 => !h1 && !h0
  | .dpkIdleWait t _ _ _ _ => !t
  | .dpkIdleDrop t _ _ _ => !t
  | .dpkIdleSync t _ _ _ => !t
  | .tlsSendStall _ _ _ h u w => !(!h && u && w)
  | .tlsSendLast _ _ _ h u => !(!h && u)
  | .lpW0 => true
  | .lpW1 _ _ => true
  | .lpW2 _ => true
  | .lpPayload _ => true
  | .chIdle _ _ => true
  | .chStall _ => true
  | .chXfer _ => true
  | .fifoNop _ => true
  | .fifoPush _ => true
  | .fifoPop _ => true
  | .fifoPushPop _ => true
  | .afifoSync _ _ _ => true
  | .lbfRxStayNotx _ _ => true
  | .lbfRxStayBusy => true
  | .lbfRxYield _ => true
  | .lbfRxTimeout => true
  | .lbfR2t _ _ _ => true
  | .lbfTxStayNorx _ _ => true
  | .lbfTxStayBusy => true
  | .lbfTxYield _ => true
  | .lbfTxTimeout => true
  | .lbfT2r _ _ _ => true
  | .pktHdrW0 _ _ => true
  | .pktHdrW1 _ _ => true
  | .pktHdrW2 _ _ => true
  | .dpkHdrWait _ _ _ _ => true
  | .dpkHdrDst _ _ _ => true
  | .dpkHdrLen _ _ _ => true
  | .dpkHdrAbort _ _ _ _ _ => true
  | .dpkCopyWait _ _ _ _ => true
  | .dpkCopyStall _ _ _ => true
  | .dpkCopyXfer _ _ => true
  | .dpkCopyLast _ _ => true
  | .dpkCopyAbort _ _ _ _ _ => true
  | .xdIdle _ _ _ => true
  | .xdRouteStall _ => true
  | .xdRouteXfer _ => true
  | .xdDropWord _ => true
  | .xdDropLast _ => true
  | .xaPark _ _ => true
  | .xaSwitchIdle _ _ => true
  | .xaWait _ _ _ => true
  | .xaStall _ _ => true
  | .xaXfer _ => true
  | .xaEndPark => true
  | .xaEndSwitch => true
  | .tlsFillWait _ _ _ _ _ _ => true
  | .tlsFillPush _ _ _ _ => true
  | .tlsFillCloseLast _ _ _ _ _ => true
  | .tlsFillCloseFull _ _ _ _ => true
  | .tlsSendLowMore _ _ _ => true
  | .tlsSendLowPop _ _ _ => true
  | .tlsSendHighPop _ _ _ _ => true
  | .tlrIdle _ _ _ => true
  | .tlrTakeLow _ => true
  | .tlrSingleStall => true
  | .tlrSingleEmit => true
  | .tlrPairStall _ => true
  | .tlrPairEmit _ => true
  | .resetLink => true
  | .resetSys => true
  | .xbarRegisterPort _ => true

end Sys2Proof
end

