-- ==== Sys2Proof/Decode.lean ====
section
/-! DEFINITION. The decoder of the link core: what a site's control word selects
(spec/30_encoding.md R100 to R109 and the operation map of its section 4), what a frame word says by
its position (R90 to R95), the encoder written from the same tables, and spec/opcode_table.json's
rows by match and mask. -/

namespace Sys2Proof

/-- Why a word selects no operation: no pattern of its control word matches it, or it is one of the
unreachable control words that R110 has a model refuse. -/
inductive Reject where
  | noPattern
  | unreachable
  deriving DecidableEq, Repr

/-- The patterns of `CH_CW` (spec/30_encoding.md section 4). -/
def decodeCh (c : ChanId) : List Bool → Option Instr
  | [false, r] => some (.chIdle c r)
  | [true, false] => some (.chStall c)
  | [true, true] => some (.chXfer c)
  | _ => none

/-- The patterns of `FQ_CW` (spec/30_encoding.md section 4). -/
def decodeFq (q : FifoId) : List Bool → Option Instr
  | [false, false] => some (.fifoNop q)
  | [true, false] => some (.fifoPush q)
  | [false, true] => some (.fifoPop q)
  | [true, true] => some (.fifoPushPop q)
  | _ => none

/-- The patterns of `LBF_CW` (spec/30_encoding.md section 4). -/
def decodeLbf : List Bool → Option Instr
  | [false, false, false, r, t] => some (.lbfRxStayNotx r t)
  | [false, false, true, true, false] => some .lbfRxStayBusy
  | [false, false, true, false, t] => some (.lbfRxYield t)
  | [false, false, true, true, true] => some .lbfRxTimeout
  | [false, true, w, r, t] => some (.lbfR2t w r t)
  | [true, false, w, false, t] => some (.lbfTxStayNorx w t)
  | [true, false, true, true, false] => some .lbfTxStayBusy
  | [true, false, false, true, t] => some (.lbfTxYield t)
  | [true, false, true, true, true] => some .lbfTxTimeout
  | [true, true, w, r, t] => some (.lbfT2r w r t)
  | _ => none

/-- The patterns of `PKT_CW` (spec/30_encoding.md section 4). -/
def decodePkt : List Bool → Option Instr
  | [false, false, h1, h0, false, l, r] => some (.pktIdleWait h1 h0 l r)
  | [false, false, h1, h0, true, l, r] => some (.pktStart h1 h0 l r)
  | [false, true, h1, h0, v, l, false] => some (.pktHdrStall h1 h0 v l)
  | [false, true, false, false, v, l, true] => some (.pktHdrW0 v l)
  | [false, true, false, true, v, l, true] => some (.pktHdrW1 v l)
  | [false, true, true, false, v, l, true] => some (.pktHdrW2 v l)
  | [true, false, h1, h0, false, l, r] => some (.pktCopyIdle h1 h0 l r)
  | [true, false, h1, h0, true, l, false] => some (.pktCopyStall h1 h0 l)
  | [true, false, h1, h0, true, false, true] => some (.pktCopyXfer h1 h0)
  | [true, false, h1, h0, true, true, true] => some (.pktCopyLast h1 h0)
  | _ => none

/-- The patterns of `DPK_CW` (spec/30_encoding.md section 4). -/
def decodeDpk : List Bool → Option Instr
  | [false, false, t, h, false, p, l, r] => some (.dpkIdleWait t h p l r)
  | [false, false, t, h, true, false, l, r] => some (.dpkIdleDrop t h l r)
  | [false, false, t, h, true, true, l, r] => some (.dpkIdleSync t h l r)
  | [false, true, false, h, false, p, l, r] => some (.dpkHdrWait h p l r)
  | [false, true, false, false, true, p, l, r] => some (.dpkHdrDst p l r)
  | [false, true, false, true, true, p, l, r] => some (.dpkHdrLen p l r)
  | [false, true, true, h, v, p, l, r] => some (.dpkHdrAbort h v p l r)
  | [true, false, false, h, false, p, l, r] => some (.dpkCopyWait h p l r)
  | [true, false, false, h, true, p, l, false] => some (.dpkCopyStall h p l)
  | [true, false, false, h, true, p, false, true] => some (.dpkCopyXfer h p)
  | [true, false, false, h, true, p, true, true] => some (.dpkCopyLast h p)
  | [true, false, true, h, v, p, l, r] => some (.dpkCopyAbort h v p l r)
  | _ => none

/-- The patterns of `XD_CW` (spec/30_encoding.md section 4). -/
def decodeXd : List Bool → Option Instr
  | [false, h, l, r] => some (.xdIdle h l r)
  | [true, true, l, false] => some (.xdRouteStall l)
  | [true, true, l, true] => some (.xdRouteXfer l)
  | [true, false, false, r] => some (.xdDropWord r)
  | [true, false, true, r] => some (.xdDropLast r)
  | _ => none

/-- The patterns of `XA_CW` (spec/30_encoding.md section 4). -/
def decodeXa : List Bool → Option Instr
  | [false, false, l, r, false] => some (.xaPark l r)
  | [false, false, l, r, true] => some (.xaSwitchIdle l r)
  | [true, false, l, r, o] => some (.xaWait l r o)
  | [true, true, l, false, o] => some (.xaStall l o)
  | [true, true, false, true, o] => some (.xaXfer o)
  | [true, true, true, true, false] => some .xaEndPark
  | [true, true, true, true, true] => some .xaEndSwitch
  | _ => none

/-- The patterns of `TS_CW` (spec/30_encoding.md section 4). -/
def decodeTls : List Bool → Option Instr
  | [false, false, l, f, h, u, w, r] => some (.tlsFillWait l f h u w r)
  | [false, true, false, false, h, u, w, r] => some (.tlsFillPush h u w r)
  | [false, true, true, f, h, u, w, r] => some (.tlsFillCloseLast f h u w r)
  | [false, true, false, true, h, u, w, r] => some (.tlsFillCloseFull h u w r)
  | [true, v, l, f, h, u, w, false] => some (.tlsSendStall v l f h u w)
  | [true, v, l, f, false, true, false, true] => some (.tlsSendLowMore v l f)
  | [true, v, l, f, false, false, false, true] => some (.tlsSendLowPop v l f)
  | [true, v, l, f, true, u, false, true] => some (.tlsSendHighPop v l f u)
  | [true, v, l, f, h, u, true, true] => some (.tlsSendLast v l f h u)
  | _ => none

/-- The patterns of `TR_CW` (spec/30_encoding.md section 4). -/
def decodeTlr : List Bool → Option Instr
  | [h, false, l, r] => some (.tlrIdle h l r)
  | [false, true, false, r] => some (.tlrTakeLow r)
  | [false, true, true, false] => some .tlrSingleStall
  | [false, true, true, true] => some .tlrSingleEmit
  | [true, true, l, false] => some (.tlrPairStall l)
  | [true, true, l, true] => some (.tlrPairEmit l)
  | _ => none

/-- The one-bit pattern of a reset input (R109). -/
def decodeReset (i : Instr) : List Bool → Option Instr
  | [true] => some i
  | _ => none

/-- `dst` of a tag word, bits 7:0 (R92). -/
def tagField (w : Word) : Tag := w.extractLsb' 0 8

/-- `reserved` of a tag word, bits 31:8 (R92). -/
def reservedField (w : Word) : BitVec 24 := w.extractLsb' 8 24

/-- A word of a frame, by its position (R90 to R94): only `W0` has fixed bits. -/
def decodeFrame : FramePos → Word → Option Instr
  | .w0, w => if w = preamble then some .lpW0 else none
  | .w1, w => some (.lpW1 (reservedField w) (tagField w))
  | .w2, w => some (.lpW2 w)
  | .payload, w => some (.lpPayload w)

/-- The control words of R110 that no sequence of inputs reaches and a model with raw codes refuses. -/
def unreachable : Site → List Bool → Bool
  | .pkt, [s1, s0, h1, h0, _, _, _] =>
    (s1 && s0) || (h1 && h0) || ((h1 || h0) && !(!s1 && s0))
  | .dpk, [s1, s0, td, _, _, _, _, _] => (s1 && s0) || (!s1 && !s0 && td)
  | .xa, [rq, gv, _, _, _] => !rq && gv
  | .tls, [st, _, _, _, hf, uh, lw, _] => st && !hf && uh && lw
  | _, _ => false

/-- The patterns of a site. -/
def decodeBits : Site → List Bool → Option Instr
  | .ch c, b => decodeCh c b
  | .fq q, b => decodeFq q b
  | .lbf, b => decodeLbf b
  | .pkt, b => decodePkt b
  | .dpk, b => decodeDpk b
  | .xd, b => decodeXd b
  | .xa, b => decodeXa b
  | .tls, b => decodeTls b
  | .tlr, b => decodeTlr b
  | .rstLink, b => decodeReset .resetLink b
  | .rstSys, b => decodeReset .resetSys b
  | .sync q v f, [] => some (.afifoSync q v f)
  | .regPort t, [] => some (.xbarRegisterPort t)
  | _, _ => none

/-- A found operation, or the refusal of a word that no pattern matches. -/
def orNoPattern : Option Instr → Except Reject Instr
  | some i => .ok i
  | none => .error .noPattern

/-- The operation that the word a site presents selects (R11, R100): exactly one, or a refusal. -/
def decode : Site → Raw → Except Reject Instr
  | .lp k, .frame w => orNoPattern (decodeFrame k w)
  | site, .bits b => if unreachable site b then .error .unreachable else orNoPattern (decodeBits site b)
  | _, .frame _ => .error .noPattern

/-- The site and the word of an operation, its don't-care bits at its operands. -/
def encode : Instr → Site × Raw
  | .lpW0 => (.lp .w0, .frame preamble)
  | .lpW1 reserved dst => (.lp .w1, .frame (reserved ++ dst))
  | .lpW2 length => (.lp .w2, .frame length)
  | .lpPayload data => (.lp .payload, .frame data)
  | .chIdle c r => (.ch c, .bits [false, r])
  | .chStall c => (.ch c, .bits [true, false])
  | .chXfer c => (.ch c, .bits [true, true])
  | .fifoNop q => (.fq q, .bits [false, false])
  | .fifoPush q => (.fq q, .bits [true, false])
  | .fifoPop q => (.fq q, .bits [false, true])
  | .fifoPushPop q => (.fq q, .bits [true, true])
  | .afifoSync q v f => (.sync q v f, .bits [])
  | .lbfRxStayNotx r t => (.lbf, .bits [false, false, false, r, t])
  | .lbfRxStayBusy => (.lbf, .bits [false, false, true, true, false])
  | .lbfRxYield t => (.lbf, .bits [false, false, true, false, t])
  | .lbfRxTimeout => (.lbf, .bits [false, false, true, true, true])
  | .lbfR2t w r t => (.lbf, .bits [false, true, w, r, t])
  | .lbfTxStayNorx w t => (.lbf, .bits [true, false, w, false, t])
  | .lbfTxStayBusy => (.lbf, .bits [true, false, true, true, false])
  | .lbfTxYield t => (.lbf, .bits [true, false, false, true, t])
  | .lbfTxTimeout => (.lbf, .bits [true, false, true, true, true])
  | .lbfT2r w r t => (.lbf, .bits [true, true, w, r, t])
  | .pktIdleWait h1 h0 l r => (.pkt, .bits [false, false, h1, h0, false, l, r])
  | .pktStart h1 h0 l r => (.pkt, .bits [false, false, h1, h0, true, l, r])
  | .pktHdrStall h1 h0 v l => (.pkt, .bits [false, true, h1, h0, v, l, false])
  | .pktHdrW0 v l => (.pkt, .bits [false, true, false, false, v, l, true])
  | .pktHdrW1 v l => (.pkt, .bits [false, true, false, true, v, l, true])
  | .pktHdrW2 v l => (.pkt, .bits [false, true, true, false, v, l, true])
  | .pktCopyIdle h1 h0 l r => (.pkt, .bits [true, false, h1, h0, false, l, r])
  | .pktCopyStall h1 h0 l => (.pkt, .bits [true, false, h1, h0, true, l, false])
  | .pktCopyXfer h1 h0 => (.pkt, .bits [true, false, h1, h0, true, false, true])
  | .pktCopyLast h1 h0 => (.pkt, .bits [true, false, h1, h0, true, true, true])
  | .dpkIdleWait t h p l r => (.dpk, .bits [false, false, t, h, false, p, l, r])
  | .dpkIdleDrop t h l r => (.dpk, .bits [false, false, t, h, true, false, l, r])
  | .dpkIdleSync t h l r => (.dpk, .bits [false, false, t, h, true, true, l, r])
  | .dpkHdrWait h p l r => (.dpk, .bits [false, true, false, h, false, p, l, r])
  | .dpkHdrDst p l r => (.dpk, .bits [false, true, false, false, true, p, l, r])
  | .dpkHdrLen p l r => (.dpk, .bits [false, true, false, true, true, p, l, r])
  | .dpkHdrAbort h v p l r => (.dpk, .bits [false, true, true, h, v, p, l, r])
  | .dpkCopyWait h p l r => (.dpk, .bits [true, false, false, h, false, p, l, r])
  | .dpkCopyStall h p l => (.dpk, .bits [true, false, false, h, true, p, l, false])
  | .dpkCopyXfer h p => (.dpk, .bits [true, false, false, h, true, p, false, true])
  | .dpkCopyLast h p => (.dpk, .bits [true, false, false, h, true, p, true, true])
  | .dpkCopyAbort h v p l r => (.dpk, .bits [true, false, true, h, v, p, l, r])
  | .xdIdle h l r => (.xd, .bits [false, h, l, r])
  | .xdRouteStall l => (.xd, .bits [true, true, l, false])
  | .xdRouteXfer l => (.xd, .bits [true, true, l, true])
  | .xdDropWord r => (.xd, .bits [true, false, false, r])
  | .xdDropLast r => (.xd, .bits [true, false, true, r])
  | .xaPark l r => (.xa, .bits [false, false, l, r, false])
  | .xaSwitchIdle l r => (.xa, .bits [false, false, l, r, true])
  | .xaWait l r o => (.xa, .bits [true, false, l, r, o])
  | .xaStall l o => (.xa, .bits [true, true, l, false, o])
  | .xaXfer o => (.xa, .bits [true, true, false, true, o])
  | .xaEndPark => (.xa, .bits [true, true, true, true, false])
  | .xaEndSwitch => (.xa, .bits [true, true, true, true, true])
  | .tlsFillWait l f h u w r => (.tls, .bits [false, false, l, f, h, u, w, r])
  | .tlsFillPush h u w r => (.tls, .bits [false, true, false, false, h, u, w, r])
  | .tlsFillCloseLast f h u w r => (.tls, .bits [false, true, true, f, h, u, w, r])
  | .tlsFillCloseFull h u w r => (.tls, .bits [false, true, false, true, h, u, w, r])
  | .tlsSendStall v l f h u w => (.tls, .bits [true, v, l, f, h, u, w, false])
  | .tlsSendLowMore v l f => (.tls, .bits [true, v, l, f, false, true, false, true])
  | .tlsSendLowPop v l f => (.tls, .bits [true, v, l, f, false, false, false, true])
  | .tlsSendHighPop v l f u => (.tls, .bits [true, v, l, f, true, u, false, true])
  | .tlsSendLast v l f h u => (.tls, .bits [true, v, l, f, h, u, true, true])
  | .tlrIdle h l r => (.tlr, .bits [h, false, l, r])
  | .tlrTakeLow r => (.tlr, .bits [false, true, false, r])
  | .tlrSingleStall => (.tlr, .bits [false, true, true, false])
  | .tlrSingleEmit => (.tlr, .bits [false, true, true, true])
  | .tlrPairStall l => (.tlr, .bits [true, true, l, false])
  | .tlrPairEmit l => (.tlr, .bits [true, true, l, true])
  | .resetLink => (.rstLink, .bits [true])
  | .resetSys => (.rstSys, .bits [true])
  | .xbarRegisterPort t => (.regPort t, .bits [])

/-- A row of spec/opcode_table.json: the site its control word belongs to (the first channel and the
first FIFO where the row serves all of them), its width, its mask and its match. -/
structure TableRow where
  site  : Site
  width : Nat
  mask  : Nat
  value : Nat
  deriving DecidableEq, Repr

/-- Rows LP.W0 to LP.PAYLOAD of spec/opcode_table.json. -/
def frameRows : List TableRow :=
  [⟨.lp .w0, 32, 0xFFFFFFFF, 0x5AA55AA5⟩,
   ⟨.lp .w1, 32, 0x00000000, 0x00000000⟩,
   ⟨.lp .w2, 32, 0x00000000, 0x00000000⟩,
   ⟨.lp .payload, 32, 0x00000000, 0x00000000⟩]

/-- Rows CH.IDLE to AFIFO.SYNC of spec/opcode_table.json. -/
def channelRows : List TableRow :=
  [⟨.ch .linkRx, 2, 0x02, 0x00⟩,
   ⟨.ch .linkRx, 2, 0x03, 0x02⟩,
   ⟨.ch .linkRx, 2, 0x03, 0x03⟩,
   ⟨.fq .rxq, 2, 0x03, 0x00⟩,
   ⟨.fq .rxq, 2, 0x03, 0x02⟩,
   ⟨.fq .rxq, 2, 0x03, 0x01⟩,
   ⟨.fq .rxq, 2, 0x03, 0x03⟩,
   ⟨.sync .rxq 0 0, 0, 0x0, 0x0⟩]

/-- Rows LBF.RX_STAY_NOTX to LBF.T2R of spec/opcode_table.json. -/
def linkBusRows : List TableRow :=
  [⟨.lbf, 5, 0x1C, 0x00⟩,
   ⟨.lbf, 5, 0x1F, 0x06⟩,
   ⟨.lbf, 5, 0x1E, 0x04⟩,
   ⟨.lbf, 5, 0x1F, 0x07⟩,
   ⟨.lbf, 5, 0x18, 0x08⟩,
   ⟨.lbf, 5, 0x1A, 0x10⟩,
   ⟨.lbf, 5, 0x1F, 0x16⟩,
   ⟨.lbf, 5, 0x1E, 0x12⟩,
   ⟨.lbf, 5, 0x1F, 0x17⟩,
   ⟨.lbf, 5, 0x18, 0x18⟩]

/-- Rows PKT.IDLE_WAIT to PKT.COPY_LAST of spec/opcode_table.json. -/
def packetizerRows : List TableRow :=
  [⟨.pkt, 7, 0x64, 0x00⟩,
   ⟨.pkt, 7, 0x64, 0x04⟩,
   ⟨.pkt, 7, 0x61, 0x20⟩,
   ⟨.pkt, 7, 0x79, 0x21⟩,
   ⟨.pkt, 7, 0x79, 0x29⟩,
   ⟨.pkt, 7, 0x79, 0x31⟩,
   ⟨.pkt, 7, 0x64, 0x40⟩,
   ⟨.pkt, 7, 0x65, 0x44⟩,
   ⟨.pkt, 7, 0x67, 0x45⟩,
   ⟨.pkt, 7, 0x67, 0x47⟩]

/-- Rows DPK.IDLE_WAIT to DPK.COPY_ABORT of spec/opcode_table.json. -/
def depacketizerRows : List TableRow :=
  [⟨.dpk, 8, 0xC8, 0x00⟩,
   ⟨.dpk, 8, 0xCC, 0x08⟩,
   ⟨.dpk, 8, 0xCC, 0x0C⟩,
   ⟨.dpk, 8, 0xE8, 0x40⟩,
   ⟨.dpk, 8, 0xF8, 0x48⟩,
   ⟨.dpk, 8, 0xF8, 0x58⟩,
   ⟨.dpk, 8, 0xE0, 0x60⟩,
   ⟨.dpk, 8, 0xE8, 0x80⟩,
   ⟨.dpk, 8, 0xE9, 0x88⟩,
   ⟨.dpk, 8, 0xEB, 0x89⟩,
   ⟨.dpk, 8, 0xEB, 0x8B⟩,
   ⟨.dpk, 8, 0xE0, 0xA0⟩]

/-- Rows XD.IDLE to XA.END_SWITCH of spec/opcode_table.json. -/
def crossbarRows : List TableRow :=
  [⟨.xd, 4, 0x08, 0x00⟩,
   ⟨.xd, 4, 0x0D, 0x0C⟩,
   ⟨.xd, 4, 0x0D, 0x0D⟩,
   ⟨.xd, 4, 0x0E, 0x08⟩,
   ⟨.xd, 4, 0x0E, 0x0A⟩,
   ⟨.xa, 5, 0x19, 0x00⟩,
   ⟨.xa, 5, 0x19, 0x01⟩,
   ⟨.xa, 5, 0x18, 0x10⟩,
   ⟨.xa, 5, 0x1A, 0x18⟩,
   ⟨.xa, 5, 0x1E, 0x1A⟩,
   ⟨.xa, 5, 0x1F, 0x1E⟩,
   ⟨.xa, 5, 0x1F, 0x1F⟩]

/-- Rows TLS.FILL_WAIT to TLR.PAIR_EMIT of spec/opcode_table.json. -/
def tlpRows : List TableRow :=
  [⟨.tls, 8, 0xC0, 0x00⟩,
   ⟨.tls, 8, 0xF0, 0x40⟩,
   ⟨.tls, 8, 0xE0, 0x60⟩,
   ⟨.tls, 8, 0xF0, 0x50⟩,
   ⟨.tls, 8, 0x81, 0x80⟩,
   ⟨.tls, 8, 0x8F, 0x85⟩,
   ⟨.tls, 8, 0x8F, 0x81⟩,
   ⟨.tls, 8, 0x8B, 0x89⟩,
   ⟨.tls, 8, 0x83, 0x83⟩,
   ⟨.tlr, 4, 0x04, 0x00⟩,
   ⟨.tlr, 4, 0x0E, 0x04⟩,
   ⟨.tlr, 4, 0x0F, 0x06⟩,
   ⟨.tlr, 4, 0x0F, 0x07⟩,
   ⟨.tlr, 4, 0x0D, 0x0C⟩,
   ⟨.tlr, 4, 0x0D, 0x0D⟩]

/-- Rows RESET.LINK to XBAR.REGISTER_PORT of spec/opcode_table.json. -/
def systemRows : List TableRow :=
  [⟨.rstLink, 1, 0x01, 0x01⟩,
   ⟨.rstSys, 1, 0x01, 0x01⟩,
   ⟨.regPort 0, 0, 0x0, 0x0⟩]

/-- The rows of spec/opcode_table.json. -/
def tableRows : List TableRow :=
  frameRows ++ channelRows ++ linkBusRows ++ packetizerRows ++ depacketizerRows ++ crossbarRows ++
    tlpRows ++ systemRows

/-- The low `n` bits of `w`, most significant first. -/
def bitsOf : Nat → Nat → List Bool
  | 0, _ => []
  | n + 1, w => w.testBit n :: bitsOf n w

/-- A width in whole bytes. -/
def wholeBytes (n : Nat) : Nat := 8 * ((n + 7) / 8)

/-- How many of the low `n` bits of `mask` are 1. -/
def fixedBits : Nat → Nat → Nat
  | 0, _ => 0
  | n + 1, mask => (if mask.testBit n then 1 else 0) + fixedBits n mask

/-- The word `w` as the row's site presents it. -/
def TableRow.raw (r : TableRow) (w : Nat) : Raw :=
  match r.site with
  | .lp _ => .frame (BitVec.ofNat 32 w)
  | _ => .bits (bitsOf r.width w)

/-- The word has the row's size, nothing above its width, and the row's fixed bits. -/
def TableRow.fits (r : TableRow) (nbits w : Nat) : Bool :=
  (nbits == wholeBytes r.width || nbits == r.width) && decide (w < 2 ^ r.width) &&
    ((w &&& r.mask) == r.value)

/-- How many bits of a word in whole bytes the row leaves open: its don't-care bits. -/
def TableRow.openBits (r : TableRow) : Nat := r.width - fixedBits r.width r.mask

/-- Of two candidates the one that leaves fewer bits open, the earlier one among equals. -/
def betterRow : Option (TableRow × Instr) → TableRow × Instr → Option (TableRow × Instr)
  | none, b => some b
  | some a, b => if b.1.openBits < a.1.openBits then some b else some a

/-- The row a bare table word stands for. The words of different control words share their bits and
a bare word does not say whose it is, so of the rows it fits the one with the fewest don't-care bits
is taken, the first of the table among equals. DESIGN CHOICE, log entry 12: `step` does not use it,
since a site knows its own control word. -/
def tableRow (nbits w : Nat) : Option (TableRow × Instr) :=
  tableRows.foldl (fun best r =>
    if r.fits nbits w then
      match decode r.site (r.raw w) with
      | .ok i => betterRow best (r, i)
      | .error _ => best
    else best) none

/-- The operation the decoder reads from a bare word of spec/opcode_table.json. -/
def decodeTableWord (nbits w : Nat) : Option Instr := (tableRow nbits w).map Prod.snd

end Sys2Proof
end

