-- ==== Sys2Proof/Machine/State.lean ====
section
/-! DEFINITION. The state of the link core: every register, FIFO and ghost counter of
spec/10_state.md and spec/40_channel_and_fifo.md R131, the configuration record (R5), and the
model's own fields: the wires of the tick in progress, the sites that have still to execute in it,
and the placed inputs. Plain data only. -/

namespace Sys2Proof.Machine

/-- `lbf.st` (R22). -/
inductive LbfSt where
  | receive
  | receiveToTransmit
  | transmit
  | transmitToReceive
  deriving DecidableEq, Repr, Inhabited

/-- `pkt.st` (R23). -/
inductive PktSt where
  | idle
  | insertHeader
  | copy
  deriving DecidableEq, Repr, Inhabited

/-- `dpk.st` (R24). -/
inductive DpkSt where
  | idle
  | receiveHeader
  | copy
  deriving DecidableEq, Repr, Inhabited

/-- `tls.st` (R25). -/
inductive TlsSt where
  | fill
  | send
  deriving DecidableEq, Repr, Inhabited

/-- The Link-Bus FSM (R22, R27, R28). -/
structure Lbf where
  st     : LbfSt
  rxTime : Nat
  txTime : Nat
  deriving DecidableEq, Repr, Inhabited

/-- The Packetizer (R23, R29). -/
structure Pkt where
  st   : PktSt
  hidx : Fin 3
  deriving DecidableEq, Repr, Inhabited

/-- The Depacketizer (R24, R30 to R34, R43). -/
structure Dpk where
  st         : DpkSt
  /-- `false`: the tag word is awaited; `true`: the length word is (R30). -/
  hcnt       : Bool
  dstR       : Tag
  lenR       : Word
  cnt        : Word
  timer      : Nat
  abortCount : Word
  deriving DecidableEq, Repr, Inhabited

/-- The Crossbar (R35, R36, R43). -/
structure Xbar where
  grant         : Nat
  locked        : Bool
  unroutedCount : Word
  deriving DecidableEq, Repr, Inhabited

/-- The TLP Sender (R25, R37 to R39) with its FIFO `tls.q` (R42). -/
structure Tls where
  st     : TlsSt
  q      : List LaneEntry
  wcount : Nat
  sent   : Nat
  half   : Bool
  deriving DecidableEq, Repr, Inhabited

/-- The TLP Receiver (R40, R41). -/
structure Tlr where
  low     : Word
  haveLow : Bool
  deriving DecidableEq, Repr, Inhabited

/-- A cross-domain FIFO (R42) with its ghost counters `vis` and `freed` (R131). -/
structure Afifo where
  items : List Word
  vis   : Nat
  freed : Nat
  deriving DecidableEq, Repr, Inhabited

/-- A cross-domain FIFO after both resets (R134). -/
def Afifo.empty : Afifo := ⟨[], 0, 0⟩

/-- The ghost counters of a cross-domain FIFO are in their ranges (R131). -/
def Afifo.wf (q : Afifo) (depth : Nat) : Bool :=
  decide (q.vis ≤ q.items.length) && decide (q.items.length + q.freed ≤ depth)

/-- A channel on which nothing is offered, accepted or transferred. Its payload is a free value, as
`valid` is 0: DESIGN CHOICE, log entry 28. -/
def chanOff {α : Type} [Inhabited α] : Chan α := ⟨false, false, false, Config.offPayload⟩

/-- The signals of the link domain in the latest tick event, off if that domain did not tick in it;
a synchroniser step leaves them (R140, R146; log entries 23, 26). The model's own field: signals
are no state of the hardware, and between two events no component reads them. -/
structure LinkWires where
  rst       : Bool
  linkRx    : Chan Word
  rxqSink   : Chan Word
  txqSource : Chan Word
  linkTx    : Chan Word
  rxWindow  : Bool
  txWindow  : Bool
  deriving DecidableEq, Repr, Inhabited

/-- The signals of the system domain in the latest tick event, off if that domain did not tick in
it; a synchroniser step leaves them (R310 to R314; log entries 23, 26). The model's own field. -/
structure SysWires where
  rst         : Bool
  dpkSink     : Chan Word
  /-- `dpk.pm`, the preamble match (R44). -/
  pm          : Bool
  dpkSource   : Chan UpWord
  abortEvt    : Bool
  inPorts     : List (Chan UpWord)
  unroutedEvt : Bool
  tlpRxOut    : Chan Lane
  tlpTxIn     : Chan Lane
  outPorts    : List (Chan UpWord)
  mTx         : Chan UpWord
  pktSource   : Chan LastWord
  deriving DecidableEq, Repr, Inhabited

/-- No signal is 1: the link domain does not tick, or ticks in reset (R318). -/
def LinkWires.off : LinkWires := ⟨false, chanOff, chanOff, chanOff, chanOff, false, false⟩

/-- No signal is 1: the system domain does not tick, or ticks in reset (R319). -/
def SysWires.off : SysWires :=
  ⟨false, chanOff, false, chanOff, false, [], false, chanOff, chanOff, [], chanOff, chanOff⟩

structure State where
  /-- The configuration record (R5); only XBAR.REGISTER_PORT changes it, before the first tick. -/
  cfg         : Cfg
  lbf         : Lbf
  pkt         : Pkt
  dpk         : Dpk
  xbar        : Xbar
  tls         : Tls
  tlr         : Tlr
  rxq         : Afifo
  txq         : Afifo
  /-- Whether a tick has been opened: the port table is closed from then on (R320). -/
  started     : Bool
  /-- The tags that the elaboration has still to register before the first tick (R320, R364). -/
  pendingTags : List Tag
  /-- The latest link tick was a reset tick and no tick with its reset at 0 has come since (R319). -/
  linkHeld    : Bool
  /-- The same for the system domain. -/
  sysHeld     : Bool
  /-- The wires of the link domain: the model's own. -/
  lk          : LinkWires
  /-- The wires of the system domain: the model's own. -/
  sy          : SysWires
  /-- The sites that have still to execute their operation in the event in progress: the model's
  own. The order is immaterial to the hardware (R6). -/
  agenda      : List Site
  /-- The placed inputs, in order: the model's own. When it is empty the environment is free. -/
  stim        : List Event
  /-- How many events have been opened: the model's own, the argument of the free values. -/
  now         : Nat
  deriving DecidableEq, Repr, Inhabited

/-- `lbf` after RESET.LINK (R318). -/
def Lbf.reset (c : Cfg) : Lbf := ⟨.receive, c.tRx - 1, c.tTx - 1⟩

/-- `pkt` after RESET.SYS (R319). -/
def Pkt.reset : Pkt := ⟨.idle, 0⟩

/-- `dpk` after RESET.SYS (R319). -/
def Dpk.reset (c : Cfg) : Dpk := ⟨.idle, false, 0, 0, 0, c.depackTimeout - 1, 0⟩

/-- `xbar` after RESET.SYS (R319). -/
def Xbar.reset : Xbar := ⟨0, false, 0⟩

/-- `tls` after RESET.SYS (R319). -/
def Tls.reset : Tls := ⟨.fill, [], 0, 0, false⟩

/-- `tlr` after RESET.SYS (R319). -/
def Tlr.reset : Tlr := ⟨0, false⟩

/-- The link core under the configuration `c` in the reset state of R47, no input placed. -/
def State.resetWith (c : Cfg) : State where
  cfg := c
  lbf := Lbf.reset c
  pkt := Pkt.reset
  dpk := Dpk.reset c
  xbar := Xbar.reset
  tls := Tls.reset
  tlr := Tlr.reset
  rxq := Afifo.empty
  txq := Afifo.empty
  started := false
  pendingTags := []
  linkHeld := false
  sysHeld := false
  lk := LinkWires.off
  sy := SysWires.off
  agenda := []
  stim := []
  now := 0

/-- The machine right after the reset of both domains (R47, R361), in the default configuration of
R322 whose OPEN parameters are free values. -/
def State.reset : State := State.resetWith Cfg.atReset

/-- Why the machine stops. -/
inductive Fault where
  /-- Cause 4, `CONFIG_ERROR` (R320, R321, R334): raised by XBAR.REGISTER_PORT for a tag that is
  registered already, and in place of a tick under a configuration that R5 does not admit.
  Safe: the spec halts start-up there and gives the link core no tick. -/
  | configError
  deriving DecidableEq, Repr

/-- Why the model gives no next state. -/
inductive Refusal where
  /-- Raised by an arm of `exec` whose instruction has no meaning yet; no arm does. Safe. -/
  | notModelled (mnemonic : String)
  /-- Raised by `step` where the word a site presents selects no operation (R110): never in a state
  that a run reaches. Safe: the spec gives such a word no operation. -/
  | noOperation (why : Reject)
  /-- Raised by XBAR.REGISTER_PORT after the first tick, where R320 says the operation does not
  exist. Safe. -/
  | portTableClosed
  deriving DecidableEq, Repr

end Sys2Proof.Machine
end

