-- ==== Sys2Proof/Machine/Operands.lean ====
section
/-! DEFINITION. What the operations read: FIFO heads and interfaces, channels by name, the port
table, the header words and the words of a lane. -/

namespace Sys2Proof.Machine

/-- What an operation, and a step, answers. -/
abbrev Out := Host.Outcome State Fault Refusal

section Channels
variable {α : Type}

/-- The producer's half of a channel: `valid` and payload (R120). -/
def offer (valid : Bool) (pay : α) (c : Chan α) : Chan α := { c with valid := valid, pay := pay }

/-- The consumer's half of a channel: `ready` (R120). -/
def accept (ready : Bool) (c : Chan α) : Chan α := { c with ready := ready }

/-- The flag that a channel operation drives (R124 to R126). -/
def flagXfer (x : Bool) (c : Chan α) : Chan α := { c with xfer := x }

/-- The bits of `CH_CW` on a channel (R101). -/
def handshake (c : Chan α) : Bool × Bool := (c.valid, c.ready)

end Channels

/-- Channel `i` of an indexed family (R10); one that does not exist offers and accepts nothing. -/
def portChan (l : List (Chan UpWord)) (i : Nat) : Chan UpWord := l.getD i chanOff

/-- `q.sink.ready` of a cross-domain FIFO (R133). -/
def sinkReady (q : Afifo) (depth : Nat) : Bool := decide (q.items.length + q.freed < depth)

/-- `q.source.valid` of a cross-domain FIFO (R133). -/
def sourceValid (q : Afifo) : Bool := decide (0 < q.vis)

/-- `q.source.data`: the head of the FIFO, any value where it holds nothing (R133, R10). -/
def sourceData (q : Afifo) (c : ChanId) (now : Nat) : Word := q.items.headD (Config.idleWord c now)

/-- `head(tls.q)`, any value where it holds nothing (R10). -/
def headLane (s : State) : LaneEntry := s.tls.q.headD (Config.noLane s.now)

/-- The number of words a lane produces (file 45, section 3): the lower half always, the upper half
if a byte of it is enabled (R263). -/
def laneWords (be : ByteEnable) : Nat := if be.extractLsb' 4 4 = 0 then 1 else 2

/-- The sum of `laneWords` over the lanes of `tls.q` (R276). -/
def queuedWords : List LaneEntry → Nat
  | [] => 0
  | l :: q => laneWords l.be + queuedWords q

/-- The length that `tls.out.length` carries for `wcount` words (R264). -/
def tlsLength (wcount : Nat) : Word :=
  if wcount < 2 ^ 32 then BitVec.ofNat 32 (max wcount tlpMinLength) else Config.longLength wcount

/-- The header words (R171). -/
def headerWord (i : Fin 3) (dst : Tag) (length : Word) : Word :=
  match i with
  | 0 => preamble
  | 1 => dst.zeroExtend 32
  | 2 => length

/-- The port that `xbar.hit` selects for a tag: the one with that key, if any (R231). -/
def hitPort (c : Cfg) (dst : Tag) : Option Nat := c.tags.findIdx? (· == dst)

/-- `out[i].valid` (R239). -/
def outValid (s : State) (i : Nat) : Bool := (portChan s.sy.outPorts i).valid

/-- The ports after `g` in cyclic order, `g` left out (R240). -/
def portsAfter (n g : Nat) : List Nat := (List.range (n - 1)).map fun k => (g + 1 + k) % n

/-- `next(g)`, round robin: the first port after `g` that offers a word, `g` if there is none
(R240). -/
def nextGrant (s : State) (g : Nat) : Nat :=
  ((portsAfter s.cfg.nPorts g).find? (outValid s)).getD g

/-- The frame position of the word on `dpk.sink`: `W0` only if it is the preamble, then `W1`, `W2`
and the payload whatever they hold (R95). -/
def framePos (s : State) : Option FramePos :=
  match s.dpk.st with
  | .idle => if s.sy.dpkSink.pay = preamble then some .w0 else none
  | .receiveHeader => if s.dpk.hcnt then some .w2 else some .w1
  | .copy => some .payload

end Sys2Proof.Machine
end

