-- ==== Sys2Proof/Machine/Flags.lean ====
section
/-! DEFINITION. The condition signals (spec/10_state.md R44): none is stored, each is computed from
the registers and the wires of the tick. -/

namespace Sys2Proof.Machine

/-- `lbf.rx_window` of a state `lbf.st` (R146). -/
def inRxWindow (s : State) : Bool := s.lbf.st == .receive

/-- `lbf.tx_window` of a state `lbf.st` (R146). -/
def inTxWindow (s : State) : Bool := s.lbf.st == .transmit

/-- `wants_receive` (R143). -/
def wantsReceive (s : State) : Bool := s.lk.linkRx.valid && s.lk.rxqSink.ready

/-- `wants_transmit` (R143). -/
def wantsTransmit (s : State) : Bool := s.lk.txqSource.valid && s.lk.linkTx.ready

/-- `rx_max`: the receive budget is spent (R145). -/
def rxMax (s : State) : Bool := s.cfg.tRx != 0 && s.lbf.rxTime == 0

/-- `tx_max`: the transmit budget is spent (R145). -/
def txMax (s : State) : Bool := s.cfg.tTx != 0 && s.lbf.txTime == 0

/-- The bit `to` of `LBF_CW` (R102). In a turnaround state, where R102 makes it a don't-care, it is
the budget of the direction just left. -/
def timeoutBit (s : State) : Bool :=
  match s.lbf.st with
  | .receive | .receiveToTransmit => rxMax s
  | .transmit | .transmitToReceive => txMax s

/-- `dpk.timer_done` (R193). -/
def timerDone (s : State) : Bool := s.dpk.st != .idle && s.dpk.timer == 0

/-- `dpk.efflen` (R194). -/
def effLen (s : State) : Word := if s.dpk.lenR = 0 then 1 else s.dpk.lenR

/-- `dpk.lastw` (R194). -/
def dpkLastWord (s : State) : Bool := s.dpk.cnt == effLen s - 1

/-- `xbar.nohit` of the word on `m_rx` (R231). -/
def noHit (s : State) : Bool := (hitPort s.cfg s.sy.dpkSource.pay.dst).isNone

/-- The bit `ir` of `XD_CW`: `in[j].ready` of the port that is hit (R105). Where none is, and R105
makes it a don't-care, it is `m_rx.ready`. -/
def hitReady (s : State) : Bool :=
  match hitPort s.cfg s.sy.dpkSource.pay.dst with
  | some j => (portChan s.sy.inPorts j).ready
  | none => s.sy.dpkSource.ready

/-- `xbar.req[xbar.grant]` (R239). -/
def grantRequests (s : State) : Bool := outValid s s.xbar.grant || s.xbar.locked

/-- `xbar.other` (R239). -/
def otherRequests (s : State) : Bool :=
  (List.range s.cfg.nPorts).any fun j => j != s.xbar.grant && outValid s j

/-- `ff` of `TS_CW`: one more lane fills `tls.q` (R107). -/
def fillsQueue (s : State) : Bool := s.tls.q.length + 1 == s.cfg.tlpTxqDepth

/-- `tls.uh`: the head lane has an upper half (R263). It is 0 where `tls.q` is empty, where R263
gives it no meaning. -/
def headHasUpper (s : State) : Bool :=
  match s.tls.q with
  | [] => false
  | l :: _ => laneWords l.be == 2

/-- `tls.lastw`, `tls.sent == tls.wcount - 1` (R263). It is 0 where `tls.wcount` is 0, where R263
gives it no meaning. -/
def tlsLastWord (s : State) : Bool := s.tls.sent + 1 == s.tls.wcount

/-- A word leaves `tls.q` with its lane: the second half of a lane, the only half of a lane, or the
final word of a packet (R272 to R274). -/
def popsLane (s : State) : Bool := s.tls.half || !headHasUpper s || tlsLastWord s

end Sys2Proof.Machine
end

