-- ==== Sys2Proof/Machine/Network.lean ====
section
/-! DEFINITION. The combinational network of a tick (spec/00_scope.md R8, spec/47_assembly.md
R316). For each component there is a function that drives the `valid` and payload of its outputs
and one that drives the `ready` of its inputs, from the registers of the state `s` and the wires
`w`; a tick is settled by all the former in data-flow order and then all the latter in reverse. -/

namespace Sys2Proof.Machine

/-- The outputs of the Link-Bus FSM (R146). -/
def lbfWires (s : State) (w : LinkWires) : LinkWires :=
  { w with
    rxWindow := inRxWindow s
    txWindow := inTxWindow s
    linkRx := accept (inRxWindow s && w.rxqSink.ready) w.linkRx
    rxqSink := offer (inRxWindow s && w.linkRx.valid) w.linkRx.pay w.rxqSink
    linkTx := offer (inTxWindow s && w.txqSource.valid) w.txqSource.pay w.linkTx
    txqSource := accept (inTxWindow s && w.linkTx.ready) w.txqSource }

/-- The word the Depacketizer puts on `dpk.source` in `COPY` (R195). -/
def dpkWord (s : State) (w : SysWires) : UpWord :=
  ⟨w.dpkSink.pay, dpkLastWord s, s.dpk.dstR, effLen s⟩

/-- The Depacketizer forwards in this tick: `COPY` without a timeout (R195). -/
def dpkForwards (s : State) : Bool := s.dpk.st == .copy && !timerDone s

/-- `dpk.source.valid`, its payload, and `dpk.abort_evt` (R195). -/
def dpkOffer (s : State) (w : SysWires) : SysWires :=
  { w with
    abortEvt := timerDone s
    dpkSource :=
      if dpkForwards s then offer w.dpkSink.valid (dpkWord s w) w.dpkSource
      else offer false (Config.idleUp .dpkSource s.now) w.dpkSource }

/-- `dpk.sink.ready` (R195). -/
def dpkAccept (s : State) (w : SysWires) : SysWires :=
  { w with
    dpkSink := accept
      (match s.dpk.st with
      | .idle => true
      | .receiveHeader => !timerDone s
      | .copy => !timerDone s && w.dpkSource.ready) w.dpkSink }

/-- `in[i].valid` and payload of every port, and `xbar.unrouted_evt` (R232). -/
def xdOffer (s : State) (w : SysWires) : SysWires :=
  { w with
    inPorts := List.zipWith
      (fun t c => offer (w.dpkSource.valid && w.dpkSource.pay.dst == t) w.dpkSource.pay c)
      s.cfg.tags w.inPorts
    unroutedEvt :=
      w.dpkSource.valid && (hitPort s.cfg w.dpkSource.pay.dst).isNone && w.dpkSource.pay.last }

/-- `m_rx.ready` (R232). -/
def xdAccept (s : State) (w : SysWires) : SysWires :=
  { w with
    dpkSource := accept
      (match hitPort s.cfg w.dpkSource.pay.dst with
      | some j => (portChan w.inPorts j).ready
      | none => true) w.dpkSource }

/-- The lane the TLP Receiver puts on `tlp_rx_out` for the word `u` on `tlr.in` (R292). -/
def tlrLane (s : State) (u : UpWord) : Lane :=
  if s.tlr.haveLow then ⟨joinHalves u.data s.tlr.low, 0xFF, u.last⟩
  else ⟨joinHalves 0 u.data, 0x0F, true⟩

/-- `tlp_rx_out.valid` and payload (R292). -/
def tlrOffer (s : State) (w : SysWires) : SysWires :=
  let i := portChan w.inPorts s.cfg.tlpPort
  { w with tlpRxOut := offer (i.valid && (s.tlr.haveLow || i.pay.last)) (tlrLane s i.pay) w.tlpRxOut }

/-- `tlr.in.ready` (R292). -/
def tlrAccept (s : State) (w : SysWires) : SysWires :=
  { w with
    inPorts := w.inPorts.modify s.cfg.tlpPort fun i =>
      accept (if s.tlr.haveLow || i.pay.last then w.tlpRxOut.ready else true) i }

/-- The word on `tls.out` in `SEND` (R264). -/
def tlsWord (s : State) : UpWord :=
  let l := headLane s
  ⟨if s.tls.half then upperHalf l.data else lowerHalf l.data, tlsLastWord s, s.cfg.tlpTag,
    tlsLength s.tls.wcount⟩

/-- `tls.out.valid` and payload, on the `out` channel of the TLP port (R264, R313). -/
def tlsOffer (s : State) (w : SysWires) : SysWires :=
  { w with
    outPorts := w.outPorts.modify s.cfg.tlpPort fun o =>
      match s.tls.st with
      | .fill => offer false (Config.idleUp (.outPort s.cfg.tlpPort) s.now) o
      | .send => offer true (tlsWord s) o }

/-- `tlp_tx_in.ready` (R264). -/
def tlsAccept (s : State) (w : SysWires) : SysWires :=
  { w with tlpTxIn := accept (s.tls.st == .fill) w.tlpTxIn }

/-- `m_tx.valid` and payload: the granted port's (R238), and nothing without a port (R248). -/
def xaOffer (s : State) (w : SysWires) : SysWires :=
  { w with
    mTx :=
      match w.outPorts[s.xbar.grant]? with
      | some o => offer o.valid o.pay w.mTx
      | none => offer false (Config.idleUp .mTx s.now) w.mTx }

/-- `out[i].ready` of every port (R238). -/
def xaAccept (s : State) (w : SysWires) : SysWires :=
  { w with outPorts := w.outPorts.mapIdx fun i o => accept (i == s.xbar.grant && w.mTx.ready) o }

/-- `pkt.source.valid` and payload (R173). -/
def pktOffer (s : State) (w : SysWires) : SysWires :=
  { w with
    pktSource :=
      match s.pkt.st with
      | .idle => offer false (Config.idleLast s.now) w.pktSource
      | .insertHeader =>
        offer true ⟨headerWord s.pkt.hidx w.mTx.pay.dst w.mTx.pay.length, false⟩ w.pktSource
      | .copy => offer w.mTx.valid ⟨w.mTx.pay.data, w.mTx.pay.last⟩ w.pktSource }

/-- `pkt.sink.ready` (R173). -/
def pktAccept (s : State) (w : SysWires) : SysWires :=
  { w with mTx := accept (s.pkt.st == .copy && w.pktSource.ready) w.mTx }

/-- The link wires that the environment and the FIFOs drive (R133, R143). -/
def linkInputs (s : State) (i : LinkIn) : LinkWires :=
  { LinkWires.off with
    linkRx := offer i.rxValid i.rxData chanOff
    rxqSink := accept (sinkReady s.rxq s.cfg.rxqDepth) chanOff
    txqSource := offer (sourceValid s.txq) (sourceData s.txq .txqSource s.now) chanOff
    linkTx := accept i.txReady chanOff }

/-- The wires of a link tick (R311, R316); of a reset tick, all 0 (R318 for the domain's outputs,
log entry 23 for the others). -/
def settleLink (s : State) (i : LinkIn) : LinkWires :=
  if i.rst then { LinkWires.off with rst := true } else lbfWires s (linkInputs s i)

/-- The environment's signals at port `k` (R314); a port without an entry offers nothing, with any
payload, and is not ready. -/
def portInput (s : State) (i : SysIn) (k : Nat) : PortIn :=
  i.ports.getD k ⟨false, Config.idleUp (.outPort k) s.now, false⟩

/-- The system wires that the environment and the FIFOs drive (R133, R312, R313). -/
def sysInputs (s : State) (i : SysIn) : SysWires :=
  { SysWires.off with
    dpkSink := offer (sourceValid s.rxq) (sourceData s.rxq .dpkSink s.now) chanOff
    pm := sourceData s.rxq .dpkSink s.now == preamble
    inPorts := (List.range s.cfg.nPorts).map fun k => accept (portInput s i k).inReady chanOff
    tlpRxOut := accept i.tlpRxReady chanOff
    tlpTxIn := offer i.tlpTxValid i.tlpTx chanOff
    outPorts := (List.range s.cfg.nPorts).map fun k =>
      offer (portInput s i k).outValid (portInput s i k).outPay chanOff
    pktSource := accept (sinkReady s.txq s.cfg.txqDepth) chanOff }

/-- The inbound signals of a system tick (R316): `valid` downstream, then `ready` upstream. -/
def settleInbound (s : State) (w : SysWires) : SysWires :=
  dpkAccept s (xdAccept s (tlrAccept s (tlrOffer s (xdOffer s (dpkOffer s w)))))

/-- The outbound signals of a system tick (R316): `valid` downstream, then `ready` upstream. -/
def settleOutbound (s : State) (w : SysWires) : SysWires :=
  tlsAccept s (xaAccept s (pktAccept s (pktOffer s (xaOffer s (tlsOffer s w)))))

/-- The wires of a system tick (R316); of a reset tick, all 0 (R319 for the domain's outputs,
log entry 23 for the others). -/
def settleSys (s : State) (i : SysIn) : SysWires :=
  if i.rst then { SysWires.off with rst := true }
  else settleOutbound s (settleInbound s (sysInputs s i))

end Sys2Proof.Machine
end

