-- ==== Sys2Proof/Machine/Ops.lean ====
section
/-! DEFINITION. The named operations that the meanings share: writing one part of the state, the
FIFO primitives of R10, the updates that happen in every tick of a component, raising an error
cause (spec/60_exceptions.md) and the two domain resets. -/

namespace Sys2Proof.Machine

/-! ### Writing one part of the state -/

def State.setCfg (s : State) (v : Cfg) : State := { s with cfg := v }
def State.setLbf (s : State) (v : Lbf) : State := { s with lbf := v }
def State.setPkt (s : State) (v : Pkt) : State := { s with pkt := v }
def State.setDpk (s : State) (v : Dpk) : State := { s with dpk := v }
def State.setXbar (s : State) (v : Xbar) : State := { s with xbar := v }
def State.setTls (s : State) (v : Tls) : State := { s with tls := v }
def State.setTlr (s : State) (v : Tlr) : State := { s with tlr := v }
def State.setRxq (s : State) (v : Afifo) : State := { s with rxq := v }
def State.setTxq (s : State) (v : Afifo) : State := { s with txq := v }
def State.setLk (s : State) (v : LinkWires) : State := { s with lk := v }
def State.setSy (s : State) (v : SysWires) : State := { s with sy := v }
def State.setAgenda (s : State) (v : List Site) : State := { s with agenda := v }

/-! ### Driving a component's outputs

Every operation drives the outputs that its component's output rule gives before its registers
change; in a settled tick they stand on the wires already. -/

/-- The Link-Bus FSM drives its outputs (R146). -/
def driveLbf (s : State) : State := s.setLk (lbfWires s s.lk)

/-- The Packetizer drives its outputs (R173). -/
def drivePkt (s : State) : State := s.setSy (pktAccept s (pktOffer s s.sy))

/-- The Depacketizer drives its outputs (R195). -/
def driveDpk (s : State) : State := s.setSy (dpkAccept s (dpkOffer s s.sy))

/-- The Crossbar's dispatch half drives its outputs (R232). -/
def driveXd (s : State) : State := s.setSy (xdAccept s (xdOffer s s.sy))

/-- The Crossbar's arbiter half drives its outputs (R238). -/
def driveXa (s : State) : State := s.setSy (xaAccept s (xaOffer s s.sy))

/-- The TLP Sender drives its outputs (R264). -/
def driveTls (s : State) : State := s.setSy (tlsAccept s (tlsOffer s s.sy))

/-- The TLP Receiver drives its outputs (R292). -/
def driveTlr (s : State) : State := s.setSy (tlrAccept s (tlrOffer s s.sy))

/-! ### Channels -/

/-- The channel operation `c` drives the flag `xfer(c)` (R124 to R126). -/
def State.setXfer (s : State) (c : ChanId) (x : Bool) : State :=
  match c with
  | .linkRx => s.setLk { s.lk with linkRx := flagXfer x s.lk.linkRx }
  | .rxqSink => s.setLk { s.lk with rxqSink := flagXfer x s.lk.rxqSink }
  | .txqSource => s.setLk { s.lk with txqSource := flagXfer x s.lk.txqSource }
  | .linkTx => s.setLk { s.lk with linkTx := flagXfer x s.lk.linkTx }
  | .dpkSink => s.setSy { s.sy with dpkSink := flagXfer x s.sy.dpkSink }
  | .dpkSource => s.setSy { s.sy with dpkSource := flagXfer x s.sy.dpkSource }
  | .inPort i => s.setSy { s.sy with inPorts := s.sy.inPorts.modify i (flagXfer x) }
  | .tlpRxOut => s.setSy { s.sy with tlpRxOut := flagXfer x s.sy.tlpRxOut }
  | .tlpTxIn => s.setSy { s.sy with tlpTxIn := flagXfer x s.sy.tlpTxIn }
  | .outPort i => s.setSy { s.sy with outPorts := s.sy.outPorts.modify i (flagXfer x) }
  | .mTx => s.setSy { s.sy with mTx := flagXfer x s.sy.mTx }
  | .pktSource => s.setSy { s.sy with pktSource := flagXfer x s.sy.pktSource }

/-! ### FIFOs -/

/-- `push(q, e)` (R10); a push changes neither ghost counter (R131). -/
def Afifo.push (q : Afifo) (e : Word) : Afifo := { q with items := q.items ++ [e] }

/-- `pop(q)` (R10); the popped entry leaves what the consumer sees and its slot is not free for the
producer yet (R131). -/
def Afifo.pop (q : Afifo) : Afifo := ⟨q.items.tail, q.vis - 1, q.freed + 1⟩

/-- The synchroniser's step to `v` and `f`, each brought into the range that R131 allows it. -/
def Afifo.sync (q : Afifo) (v f : Nat) : Afifo :=
  { q with vis := max q.vis (min v q.items.length), freed := min f q.freed }

/-- `push(tls.q, (data, be))` of the lane on `tlp_tx_in` (R267). -/
def Tls.push (t : Tls) (l : Lane) : Tls := { t with q := t.q ++ [⟨l.data, l.be⟩] }

/-- `pop(tls.q)` (R272 to R274). -/
def Tls.pop (t : Tls) : Tls := { t with q := t.q.tail }

/-- The entry on `q.sink` is appended (R128): `link_rx` words to `rxq`, `pkt.source` words without
`last` to `txq` (R313), lanes without `last` to `tls.q`. -/
def State.fifoPush (s : State) (q : FifoId) : State :=
  match q with
  | .rxq => s.setRxq (s.rxq.push s.lk.rxqSink.pay)
  | .txq => s.setTxq (s.txq.push s.sy.pktSource.pay.data)
  | .tlsq => s.setTls (s.tls.push s.sy.tlpTxIn.pay)

/-- The oldest entry is removed (R129). -/
def State.fifoPop (s : State) (q : FifoId) : State :=
  match q with
  | .rxq => s.setRxq s.rxq.pop
  | .txq => s.setTxq s.txq.pop
  | .tlsq => s.setTls s.tls.pop

/-- `AFIFO.SYNC` on a cross-domain FIFO (R131). -/
def State.fifoSync (s : State) (q : CrossFifo) (v f : Nat) : State :=
  match q with
  | .rxq => s.setRxq (s.rxq.sync v f)
  | .txq => s.setTxq (s.txq.sync v f)

/-! ### What a component does in every tick -/

/-- A dwell counter (R144): reloaded outside its direction, counted down to 0 inside it; a disabled
one (`T = 0`) does not exist and keeps its value. -/
def dwell (limit time : Nat) (inside : Bool) : Nat :=
  if limit = 0 then time else if inside then time - 1 else limit - 1

/-- One tick of the Link-Bus FSM: outputs (R146), counters (R144), next state. -/
def lbfTick (next : LbfSt) (s : State) : State :=
  (driveLbf s).setLbf
    ⟨next, dwell s.cfg.tRx s.lbf.rxTime (inRxWindow s), dwell s.cfg.tTx s.lbf.txTime (inTxWindow s)⟩

/-- The Depacketizer's timer in every tick (R193). -/
def nextTimer (s : State) : Nat :=
  if s.dpk.st = .idle then s.cfg.depackTimeout - 1
  else if s.cfg.depackTimerRestartOnWord && s.sy.dpkSink.xfer then s.cfg.depackTimeout - 1
  else s.dpk.timer - 1

/-- The received-word count in every tick, but for the increment of R206 (R196). -/
def nextCnt (s : State) : Word := if s.dpk.st = .idle then 0 else s.dpk.cnt

/-- What every Depacketizer operation does besides its own effect: outputs (R195), timer (R193) and
word count (R196). -/
def dpkTick (s : State) : State :=
  (driveDpk s).setDpk { s.dpk with timer := nextTimer s, cnt := nextCnt s }

/-- The lane on `tlp_tx_in` is buffered and its words are counted (R267 to R269). -/
def bufferLane (s : State) : Tls :=
  let l := s.sy.tlpTxIn.pay
  { s.tls.push l with wcount := s.tls.wcount + laneWords l.be }

/-- The buffered record, or the part of it that fills the FIFO, is closed (R268, R269). -/
def closeRecord (t : Tls) : Tls := { t with st := .send, sent := 0, half := false }

/-! ### Error causes -/

/-- The causes of R330 to R335. -/
inductive Cause where
  | framing
  | timeoutAbort
  | unrouted
  | configError
  deriving DecidableEq, Repr

/-- The cause codes of R331 to R334; no signal carries one (R330). -/
def Cause.code : Cause → Nat
  | .framing => 1
  | .timeoutAbort => 2
  | .unrouted => 3
  | .configError => 4

/-- `raise E` (R330 to R335, R339): the event pulse is 1 in this tick, the counter is incremented
modulo 2^32, and cause 2 returns the Depacketizer to `IDLE`. Nothing is saved and there is no
handler; the return is that `IDLE` itself (R340). A framing error records nothing; a configuration
error halts start-up. -/
def raiseCause (c : Cause) (s : State) : Out :=
  match c with
  | .framing => .next s
  | .timeoutAbort =>
    .next ((s.setDpk { s.dpk with
        st := .idle, hcnt := false, abortCount := s.dpk.abortCount + 1 }).setSy
      { s.sy with abortEvt := true })
  | .unrouted =>
    .next ((s.setXbar { s.xbar with unroutedCount := s.xbar.unroutedCount + 1 }).setSy
      { s.sy with unroutedEvt := true })
  | .configError => .fault .configError

/-! ### Resets -/

/-- Both resets are asserted together: the cross-domain FIFOs are emptied (R134, R318, R319). -/
def clearCrossFifos (s : State) : State := (s.setRxq .empty).setTxq .empty

/-- `RESET.LINK` (R318): the FIFOs are emptied only if `rst_sys` is asserted as well. That the wires
R318 does not name go off too is a DESIGN CHOICE (log entry 23). -/
def resetLinkDomain (s : State) : State :=
  let t := (s.setLk { LinkWires.off with rst := true }).setLbf (Lbf.reset s.cfg)
  if s.sysHeld then clearCrossFifos t else t

/-- `RESET.SYS` (R319): the FIFOs are emptied only if `rst_link` is asserted as well. That the wires
R319 does not name go off too is a DESIGN CHOICE (log entry 23). -/
def resetSysDomain (s : State) : State :=
  let t := (((((s.setSy { SysWires.off with rst := true }).setPkt Pkt.reset).setDpk
    (Dpk.reset s.cfg)).setXbar Xbar.reset).setTls Tls.reset).setTlr Tlr.reset
  if s.linkHeld then clearCrossFifos t else t

end Sys2Proof.Machine
end

