-- ==== Sys2Proof/Machine/Channel.lean ====
section
/-! DEFINITION. The Link Word Channel and the FIFOs (spec/40_channel_and_fifo.md R124 to R131). A
channel operation drives the flag `xfer(c)`; taking the payload and advancing to the next word are
the operations of the components at the channel's two ends in the same tick. -/

namespace Sys2Proof.Machine

/-- `CH.IDLE` (R124). -/
def execChIdle (c : ChanId) (_r : Bool) (s : State) : Out := .next (s.setXfer c false)

/-- `CH.STALL` (R125). -/
def execChStall (c : ChanId) (s : State) : Out := .next (s.setXfer c false)

/-- `CH.XFER` (R126). -/
def execChXfer (c : ChanId) (s : State) : Out := .next (s.setXfer c true)

/-- `FIFO.NOP` (R127). -/
def execFifoNop (_q : FifoId) (s : State) : Out := .next s

/-- `FIFO.PUSH` (R128). -/
def execFifoPush (q : FifoId) (s : State) : Out := .next (s.fifoPush q)

/-- `FIFO.POP` (R129). -/
def execFifoPop (q : FifoId) (s : State) : Out := .next (s.fifoPop q)

/-- `FIFO.PUSH_POP` (R130): `tail(q) ++ [e]`. -/
def execFifoPushPop (q : FifoId) (s : State) : Out := .next ((s.fifoPop q).fifoPush q)

/-- `AFIFO.SYNC` (R131). -/
def execAfifoSync (q : CrossFifo) (v f : Nat) (s : State) : Out := .next (s.fifoSync q v f)

end Sys2Proof.Machine
end

