-- ==== Sys2Proof/Machine/Crossbar.lean ====
section
/-! DEFINITION. The Crossbar (spec/44_crossbar.md R233 to R237 and R241 to R247). Outputs are those
of R232 and R238. -/

namespace Sys2Proof.Machine

/-- `XD.IDLE` (R233). -/
def execXdIdle (_h _l _r : Bool) (s : State) : Out := .next (driveXd s)

/-- `XD.ROUTE_STALL` (R234). -/
def execXdRouteStall (_l : Bool) (s : State) : Out := .next (driveXd s)

/-- `XD.ROUTE_XFER` (R235). -/
def execXdRouteXfer (_l : Bool) (s : State) : Out := .next (driveXd s)

/-- `XD.DROP_WORD` (R236). -/
def execXdDropWord (_r : Bool) (s : State) : Out := .next (driveXd s)

/-- `XD.DROP_LAST` (R237). -/
def execXdDropLast (_r : Bool) (s : State) : Out := raiseCause .unrouted (driveXd s)

/-- `XA.PARK` (R241). -/
def execXaPark (_l _r : Bool) (s : State) : Out := .next (driveXa s)

/-- `XA.SWITCH_IDLE` (R242). -/
def execXaSwitchIdle (_l _r : Bool) (s : State) : Out :=
  .next ((driveXa s).setXbar { s.xbar with grant := nextGrant s s.xbar.grant })

/-- `XA.WAIT` (R243). -/
def execXaWait (_l _r _o : Bool) (s : State) : Out := .next (driveXa s)

/-- `XA.STALL` (R244). -/
def execXaStall (_l _o : Bool) (s : State) : Out := .next (driveXa s)

/-- `XA.XFER` (R245). -/
def execXaXfer (_o : Bool) (s : State) : Out :=
  .next ((driveXa s).setXbar { s.xbar with locked := true })

/-- `XA.END_PARK` (R246). -/
def execXaEndPark (s : State) : Out :=
  .next ((driveXa s).setXbar { s.xbar with locked := false })

/-- `XA.END_SWITCH` (R247). -/
def execXaEndSwitch (s : State) : Out :=
  .next ((driveXa s).setXbar
    { s.xbar with locked := false, grant := nextGrant s s.xbar.grant })

end Sys2Proof.Machine
end

