-- ==== Sys2Proof/Machine/Depacketizer.lean ====
section
/-! DEFINITION. The Depacketizer (spec/43_depacketizer.md R197 to R208). In every operation the
outputs are those of R195, the timer that of R193 and the word count that of R196. -/

namespace Sys2Proof.Machine

/-- `DPK.IDLE_WAIT` (R197). -/
def execDpkIdleWait (_t _h _p _l _r : Bool) (s : State) : Out :=
  let t := dpkTick s
  .next (t.setDpk { t.dpk with st := .idle })

/-- `DPK.IDLE_DROP` (R198): the word is discarded, a framing error without a record (R331). -/
def execDpkIdleDrop (_t _h _l _r : Bool) (s : State) : Out :=
  let t := dpkTick s
  raiseCause .framing (t.setDpk { t.dpk with st := .idle })

/-- `DPK.IDLE_SYNC` (R199). -/
def execDpkIdleSync (_t _h _l _r : Bool) (s : State) : Out :=
  let t := dpkTick s
  .next (t.setDpk { t.dpk with st := .receiveHeader, hcnt := false })

/-- `DPK.HDR_WAIT` (R200). -/
def execDpkHdrWait (_h _p _l _r : Bool) (s : State) : Out :=
  let t := dpkTick s
  .next (t.setDpk { t.dpk with st := .receiveHeader })

/-- `DPK.HDR_DST` (R201). -/
def execDpkHdrDst (_p _l _r : Bool) (s : State) : Out :=
  let t := dpkTick s
  .next (t.setDpk { t.dpk with dstR := tagField s.sy.dpkSink.pay, hcnt := true })

/-- `DPK.HDR_LEN` (R202). -/
def execDpkHdrLen (_p _l _r : Bool) (s : State) : Out :=
  let t := dpkTick s
  .next (t.setDpk { t.dpk with lenR := s.sy.dpkSink.pay, hcnt := false, st := .copy })

/-- `DPK.HDR_ABORT` (R203). -/
def execDpkHdrAbort (_h _v _p _l _r : Bool) (s : State) : Out :=
  raiseCause .timeoutAbort (dpkTick s)

/-- `DPK.COPY_WAIT` (R204). -/
def execDpkCopyWait (_h _p _l _r : Bool) (s : State) : Out := .next (dpkTick s)

/-- `DPK.COPY_STALL` (R205). -/
def execDpkCopyStall (_h _p _l : Bool) (s : State) : Out := .next (dpkTick s)

/-- `DPK.COPY_XFER` (R206). -/
def execDpkCopyXfer (_h _p : Bool) (s : State) : Out :=
  let t := dpkTick s
  .next (t.setDpk { t.dpk with cnt := s.dpk.cnt + 1, st := .copy })

/-- `DPK.COPY_LAST` (R207). -/
def execDpkCopyLast (_h _p : Bool) (s : State) : Out :=
  let t := dpkTick s
  .next (t.setDpk { t.dpk with st := .idle })

/-- `DPK.COPY_ABORT` (R208). -/
def execDpkCopyAbort (_h _v _p _l _r : Bool) (s : State) : Out :=
  raiseCause .timeoutAbort (dpkTick s)

end Sys2Proof.Machine
end

