-- ==== Sys2Proof/Machine/Frame.lean ====
section
/-! DEFINITION. The words of a frame as the Depacketizer reads them (spec/30_encoding.md R91 to
R95). The frame position selects them; they execute in the tick that transfers the word on
`dpk.sink`, beside the Depacketizer's own operation of that tick. -/

namespace Sys2Proof.Machine

/-- `LP.W0` (R91): all 32 bits match, so the condition signal `dpk.pm` is 1. -/
def execLpW0 (s : State) : Out := .next (s.setSy { s.sy with pm := true })

/-- `LP.W1` (R92): `dst` is copied to `dpk.dst_r`; the reserved bytes are discarded. -/
def execLpW1 (_reserved : BitVec 24) (dst : Tag) (s : State) : Out :=
  .next (s.setDpk { s.dpk with dstR := dst })

/-- `LP.W2` (R93): the word is copied to `dpk.len_r` as it is; R194 reads 0 as 1. -/
def execLpW2 (length : Word) (s : State) : Out := .next (s.setDpk { s.dpk with lenR := length })

/-- `LP.PAYLOAD` (R94): the word stands verbatim on `dpk.source`, a preamble value included. -/
def execLpPayload (data : Word) (s : State) : Out :=
  let c := s.sy.dpkSource
  .next (s.setSy { s.sy with dpkSource := offer c.valid { c.pay with data := data } c })

end Sys2Proof.Machine
end

