-- ==== Sys2Proof/Machine/LinkBus.lean ====
section
/-! DEFINITION. The Anti-Starvation Arbiter / Link-Bus FSM (spec/41_link_bus_fsm.md R148 to R157).
Outputs and data movement are those of R146, the counters those of R144. -/

namespace Sys2Proof.Machine

/-- `LBF.RX_STAY_NOTX` (R148). -/
def execLbfRxStayNotx (_r _t : Bool) (s : State) : Out := .next (lbfTick .receive s)

/-- `LBF.RX_STAY_BUSY` (R149). -/
def execLbfRxStayBusy (s : State) : Out := .next (lbfTick .receive s)

/-- `LBF.RX_YIELD` (R150). -/
def execLbfRxYield (_t : Bool) (s : State) : Out := .next (lbfTick .receiveToTransmit s)

/-- `LBF.RX_TIMEOUT` (R151). -/
def execLbfRxTimeout (s : State) : Out := .next (lbfTick .receiveToTransmit s)

/-- `LBF.R2T` (R152). -/
def execLbfR2t (_w _r _t : Bool) (s : State) : Out := .next (lbfTick .transmit s)

/-- `LBF.TX_STAY_NORX` (R153). -/
def execLbfTxStayNorx (_w _t : Bool) (s : State) : Out := .next (lbfTick .transmit s)

/-- `LBF.TX_STAY_BUSY` (R154). -/
def execLbfTxStayBusy (s : State) : Out := .next (lbfTick .transmit s)

/-- `LBF.TX_YIELD` (R155). -/
def execLbfTxYield (_t : Bool) (s : State) : Out := .next (lbfTick .transmitToReceive s)

/-- `LBF.TX_TIMEOUT` (R156). -/
def execLbfTxTimeout (s : State) : Out := .next (lbfTick .transmitToReceive s)

/-- `LBF.T2R` (R157). -/
def execLbfT2r (_w _r _t : Bool) (s : State) : Out := .next (lbfTick .receive s)

end Sys2Proof.Machine
end

