-- ==== Sys2Proof/Machine/Packetizer.lean ====
section
/-! DEFINITION. The Packetizer (spec/42_packetizer.md R174 to R183). Outputs are those of R173; the
word they offer is the one transferred where `pkt.source.ready` is 1. -/

namespace Sys2Proof.Machine

/-- `PKT.IDLE_WAIT` (R174). -/
def execPktIdleWait (_h1 _h0 _l _r : Bool) (s : State) : Out :=
  .next ((drivePkt s).setPkt { s.pkt with st := .idle })

/-- `PKT.START` (R175). -/
def execPktStart (_h1 _h0 _l _r : Bool) (s : State) : Out :=
  .next ((drivePkt s).setPkt ⟨.insertHeader, 0⟩)

/-- `PKT.HDR_STALL` (R176). -/
def execPktHdrStall (_h1 _h0 _v _l : Bool) (s : State) : Out := .next (drivePkt s)

/-- `PKT.HDR_W0` (R177). -/
def execPktHdrW0 (_v _l : Bool) (s : State) : Out :=
  .next ((drivePkt s).setPkt { s.pkt with hidx := 1 })

/-- `PKT.HDR_W1` (R178). -/
def execPktHdrW1 (_v _l : Bool) (s : State) : Out :=
  .next ((drivePkt s).setPkt { s.pkt with hidx := 2 })

/-- `PKT.HDR_W2` (R179). -/
def execPktHdrW2 (_v _l : Bool) (s : State) : Out := .next ((drivePkt s).setPkt ⟨.copy, 0⟩)

/-- `PKT.COPY_IDLE` (R180). -/
def execPktCopyIdle (_h1 _h0 _l _r : Bool) (s : State) : Out := .next (drivePkt s)

/-- `PKT.COPY_STALL` (R181). -/
def execPktCopyStall (_h1 _h0 _l : Bool) (s : State) : Out := .next (drivePkt s)

/-- `PKT.COPY_XFER` (R182). -/
def execPktCopyXfer (_h1 _h0 : Bool) (s : State) : Out :=
  .next ((drivePkt s).setPkt { s.pkt with st := .copy })

/-- `PKT.COPY_LAST` (R183). -/
def execPktCopyLast (_h1 _h0 : Bool) (s : State) : Out :=
  .next ((drivePkt s).setPkt { s.pkt with st := .idle })

end Sys2Proof.Machine
end

