-- ==== Sys2Proof/Machine/System.lean ====
section
/-! DEFINITION. The system operations (spec/47_assembly.md R318 to R320). -/

namespace Sys2Proof.Machine

/-- `RESET.LINK` (R318). -/
def execResetLink (s : State) : Out := .next (resetLinkDomain s)

/-- `RESET.SYS` (R319). -/
def execResetSys (s : State) : Out := .next (resetSysDomain s)

/-- `XBAR.REGISTER_PORT` (R320): before the first tick the tag becomes the key of a new port, whose
index is the former `N_PORTS` and whose channels `in[i]` and `out[i]` come into being; a registered
tag is a configuration error. After the first tick the operation does not exist. -/
def execXbarRegisterPort (t : Tag) (s : State) : Out :=
  if s.started then .refused .portTableClosed
  else if t ∈ s.cfg.tags then raiseCause .configError s
  else
    .next ((s.setCfg { s.cfg with tags := s.cfg.tags ++ [t] }).setSy
      { s.sy with
        inPorts := s.sy.inPorts ++ [chanOff]
        outPorts := s.sy.outPorts ++ [chanOff] })

end Sys2Proof.Machine
end

