-- ==== Sys2Proof/Machine/TlpReceiver.lean ====
section
/-! DEFINITION. The TLP Receiver (spec/46_tlp_receiver.md R294 to R299). Outputs are those of R292;
the word it reads is the one on `tlr.in`, the `in` channel of the TLP port (R312). -/

namespace Sys2Proof.Machine

/-- `tlr.in.data` (R290). -/
def tlrInData (s : State) : Word := (portChan s.sy.inPorts s.cfg.tlpPort).pay.data

/-- `TLR.IDLE` (R294). -/
def execTlrIdle (_h _l _r : Bool) (s : State) : Out := .next (driveTlr s)

/-- `TLR.TAKE_LOW` (R295). -/
def execTlrTakeLow (_r : Bool) (s : State) : Out :=
  .next ((driveTlr s).setTlr ⟨tlrInData s, true⟩)

/-- `TLR.SINGLE_STALL` (R296). -/
def execTlrSingleStall (s : State) : Out := .next (driveTlr s)

/-- `TLR.SINGLE_EMIT` (R297). -/
def execTlrSingleEmit (s : State) : Out :=
  .next ((driveTlr s).setTlr { s.tlr with haveLow := false })

/-- `TLR.PAIR_STALL` (R298). -/
def execTlrPairStall (_l : Bool) (s : State) : Out := .next (driveTlr s)

/-- `TLR.PAIR_EMIT` (R299). -/
def execTlrPairEmit (_l : Bool) (s : State) : Out :=
  .next ((driveTlr s).setTlr { s.tlr with haveLow := false })

end Sys2Proof.Machine
end

