-- ==== Sys2Proof/Machine/TlpSender.lean ====
section
/-! DEFINITION. The TLP Sender (spec/45_tlp_sender.md R266 to R274). Outputs are those of R264. -/

namespace Sys2Proof.Machine

/-- `TLS.FILL_WAIT` (R266). -/
def execTlsFillWait (_l _f _h _u _w _r : Bool) (s : State) : Out := .next (driveTls s)

/-- `TLS.FILL_PUSH` (R267). -/
def execTlsFillPush (_h _u _w _r : Bool) (s : State) : Out :=
  .next ((driveTls s).setTls (bufferLane s))

/-- `TLS.FILL_CLOSE_LAST` (R268). -/
def execTlsFillCloseLast (_f _h _u _w _r : Bool) (s : State) : Out :=
  .next ((driveTls s).setTls (closeRecord (bufferLane s)))

/-- `TLS.FILL_CLOSE_FULL` (R269). -/
def execTlsFillCloseFull (_h _u _w _r : Bool) (s : State) : Out :=
  .next ((driveTls s).setTls (closeRecord (bufferLane s)))

/-- `TLS.SEND_STALL` (R270). -/
def execTlsSendStall (_v _l _f _h _u _w : Bool) (s : State) : Out := .next (driveTls s)

/-- `TLS.SEND_LOW_MORE` (R271). -/
def execTlsSendLowMore (_v _l _f : Bool) (s : State) : Out :=
  .next ((driveTls s).setTls { s.tls with sent := s.tls.sent + 1, half := true })

/-- `TLS.SEND_LOW_POP` (R272). -/
def execTlsSendLowPop (_v _l _f : Bool) (s : State) : Out :=
  .next ((driveTls s).setTls { s.tls.pop with sent := s.tls.sent + 1 })

/-- `TLS.SEND_HIGH_POP` (R273). -/
def execTlsSendHighPop (_v _l _f _u : Bool) (s : State) : Out :=
  .next ((driveTls s).setTls { s.tls.pop with sent := s.tls.sent + 1, half := false })

/-- `TLS.SEND_LAST` (R274). -/
def execTlsSendLast (_v _l _f _h _u : Bool) (s : State) : Out :=
  .next ((driveTls s).setTls
    { s.tls.pop with half := false, sent := 0, wcount := 0, st := .fill })

end Sys2Proof.Machine
end

