-- ==== Sys2Proof/Machine/Dispatch.lean ====
section
/-! DEFINITION. The meaning of every operation: one arm per constructor of `Instr`. -/

namespace Sys2Proof.Machine

def exec (i : Instr) (s : State) : Host.Outcome State Fault Refusal :=
  match i with
  | .lpW0 => Sys2Proof.Machine.execLpW0 s
  | .lpW1 reserved dst => Sys2Proof.Machine.execLpW1 reserved dst s
  | .lpW2 length => Sys2Proof.Machine.execLpW2 length s
  | .lpPayload data => Sys2Proof.Machine.execLpPayload data s
  | .chIdle c r => Sys2Proof.Machine.execChIdle c r s
  | .chStall c => Sys2Proof.Machine.execChStall c s
  | .chXfer c => Sys2Proof.Machine.execChXfer c s
  | .fifoNop q => Sys2Proof.Machine.execFifoNop q s
  | .fifoPush q => Sys2Proof.Machine.execFifoPush q s
  | .fifoPop q => Sys2Proof.Machine.execFifoPop q s
  | .fifoPushPop q => Sys2Proof.Machine.execFifoPushPop q s
  | .afifoSync q v f => Sys2Proof.Machine.execAfifoSync q v f s
  | .lbfRxStayNotx r t => Sys2Proof.Machine.execLbfRxStayNotx r t s
  | .lbfRxStayBusy => Sys2Proof.Machine.execLbfRxStayBusy s
  | .lbfRxYield t => Sys2Proof.Machine.execLbfRxYield t s
  | .lbfRxTimeout => Sys2Proof.Machine.execLbfRxTimeout s
  | .lbfR2t w r t => Sys2Proof.Machine.execLbfR2t w r t s
  | .lbfTxStayNorx w t => Sys2Proof.Machine.execLbfTxStayNorx w t s
  | .lbfTxStayBusy => Sys2Proof.Machine.execLbfTxStayBusy s
  | .lbfTxYield t => Sys2Proof.Machine.execLbfTxYield t s
  | .lbfTxTimeout => Sys2Proof.Machine.execLbfTxTimeout s
  | .lbfT2r w r t => Sys2Proof.Machine.execLbfT2r w r t s
  | .pktIdleWait h1 h0 l r => Sys2Proof.Machine.execPktIdleWait h1 h0 l r s
  | .pktStart h1 h0 l r => Sys2Proof.Machine.execPktStart h1 h0 l r s
  | .pktHdrStall h1 h0 v l => Sys2Proof.Machine.execPktHdrStall h1 h0 v l s
  | .pktHdrW0 v l => Sys2Proof.Machine.execPktHdrW0 v l s
  | .pktHdrW1 v l => Sys2Proof.Machine.execPktHdrW1 v l s
  | .pktHdrW2 v l => Sys2Proof.Machine.execPktHdrW2 v l s
  | .pktCopyIdle h1 h0 l r => Sys2Proof.Machine.execPktCopyIdle h1 h0 l r s
  | .pktCopyStall h1 h0 l => Sys2Proof.Machine.execPktCopyStall h1 h0 l s
  | .pktCopyXfer h1 h0 => Sys2Proof.Machine.execPktCopyXfer h1 h0 s
  | .pktCopyLast h1 h0 => Sys2Proof.Machine.execPktCopyLast h1 h0 s
  | .dpkIdleWait t h p l r => Sys2Proof.Machine.execDpkIdleWait t h p l r s
  | .dpkIdleDrop t h l r => Sys2Proof.Machine.execDpkIdleDrop t h l r s
  | .dpkIdleSync t h l r => Sys2Proof.Machine.execDpkIdleSync t h l r s
  | .dpkHdrWait h p l r => Sys2Proof.Machine.execDpkHdrWait h p l r s
  | .dpkHdrDst p l r => Sys2Proof.Machine.execDpkHdrDst p l r s
  | .dpkHdrLen p l r => Sys2Proof.Machine.execDpkHdrLen p l r s
  | .dpkHdrAbort h v p l r => Sys2Proof.Machine.execDpkHdrAbort h v p l r s
  | .dpkCopyWait h p l r => Sys2Proof.Machine.execDpkCopyWait h p l r s
  | .dpkCopyStall h p l => Sys2Proof.Machine.execDpkCopyStall h p l s
  | .dpkCopyXfer h p => Sys2Proof.Machine.execDpkCopyXfer h p s
  | .dpkCopyLast h p => Sys2Proof.Machine.execDpkCopyLast h p s
  | .dpkCopyAbort h v p l r => Sys2Proof.Machine.execDpkCopyAbort h v p l r s
  | .xdIdle h l r => Sys2Proof.Machine.execXdIdle h l r s
  | .xdRouteStall l => Sys2Proof.Machine.execXdRouteStall l s
  | .xdRouteXfer l => Sys2Proof.Machine.execXdRouteXfer l s
  | .xdDropWord r => Sys2Proof.Machine.execXdDropWord r s
  | .xdDropLast r => Sys2Proof.Machine.execXdDropLast r s
  | .xaPark l r => Sys2Proof.Machine.execXaPark l r s
  | .xaSwitchIdle l r => Sys2Proof.Machine.execXaSwitchIdle l r s
  | .xaWait l r o => Sys2Proof.Machine.execXaWait l r o s
  | .xaStall l o => Sys2Proof.Machine.execXaStall l o s
  | .xaXfer o => Sys2Proof.Machine.execXaXfer o s
  | .xaEndPark => Sys2Proof.Machine.execXaEndPark s
  | .xaEndSwitch => Sys2Proof.Machine.execXaEndSwitch s
  | .tlsFillWait l f h u w r => Sys2Proof.Machine.execTlsFillWait l f h u w r s
  | .tlsFillPush h u w r => Sys2Proof.Machine.execTlsFillPush h u w r s
  | .tlsFillCloseLast f h u w r => Sys2Proof.Machine.execTlsFillCloseLast f h u w r s
  | .tlsFillCloseFull h u w r => Sys2Proof.Machine.execTlsFillCloseFull h u w r s
  | .tlsSendStall v l f h u w => Sys2Proof.Machine.execTlsSendStall v l f h u w s
  | .tlsSendLowMore v l f => Sys2Proof.Machine.execTlsSendLowMore v l f s
  | .tlsSendLowPop v l f => Sys2Proof.Machine.execTlsSendLowPop v l f s
  | .tlsSendHighPop v l f u => Sys2Proof.Machine.execTlsSendHighPop v l f u s
  | .tlsSendLast v l f h u => Sys2Proof.Machine.execTlsSendLast v l f h u s
  | .tlrIdle h l r => Sys2Proof.Machine.execTlrIdle h l r s
  | .tlrTakeLow r => Sys2Proof.Machine.execTlrTakeLow r s
  | .tlrSingleStall => Sys2Proof.Machine.execTlrSingleStall s
  | .tlrSingleEmit => Sys2Proof.Machine.execTlrSingleEmit s
  | .tlrPairStall l => Sys2Proof.Machine.execTlrPairStall l s
  | .tlrPairEmit l => Sys2Proof.Machine.execTlrPairEmit l s
  | .resetLink => Sys2Proof.Machine.execResetLink s
  | .resetSys => Sys2Proof.Machine.execResetSys s
  | .xbarRegisterPort t => Sys2Proof.Machine.execXbarRegisterPort t s

end Sys2Proof.Machine
end

