-- ==== Sys2Proof/Machine/Control.lean ====
section
/-! DEFINITION. The control words (spec/30_encoding.md R100 to R109): for each site the bits its
state code and condition signals spell, most significant first. -/

namespace Sys2Proof.Machine

/-- The code of `lbf.st` (R22). -/
def LbfSt.code : LbfSt → List Bool
  | .receive => [false, false]
  | .receiveToTransmit => [false, true]
  | .transmit => [true, false]
  | .transmitToReceive => [true, true]

/-- The code of `pkt.st` (R23). -/
def PktSt.code : PktSt → List Bool
  | .idle => [false, false]
  | .insertHeader => [false, true]
  | .copy => [true, false]

/-- `pkt.hidx` in two bits (R29). -/
def hidxCode : Fin 3 → List Bool
  | 0 => [false, false]
  | 1 => [false, true]
  | 2 => [true, false]

/-- The code of `dpk.st` (R24). -/
def DpkSt.code : DpkSt → List Bool
  | .idle => [false, false]
  | .receiveHeader => [false, true]
  | .copy => [true, false]

/-- The bits of a channel (R101). -/
def State.handshakeOf (s : State) : ChanId → Bool × Bool
  | .linkRx => handshake s.lk.linkRx
  | .rxqSink => handshake s.lk.rxqSink
  | .txqSource => handshake s.lk.txqSource
  | .linkTx => handshake s.lk.linkTx
  | .dpkSink => handshake s.sy.dpkSink
  | .dpkSource => handshake s.sy.dpkSource
  | .inPort i => handshake (portChan s.sy.inPorts i)
  | .tlpRxOut => handshake s.sy.tlpRxOut
  | .tlpTxIn => handshake s.sy.tlpTxIn
  | .outPort i => handshake (portChan s.sy.outPorts i)
  | .mTx => handshake s.sy.mTx
  | .pktSource => handshake s.sy.pktSource

/-- `CH_CW` (R101). -/
def chWord (s : State) (c : ChanId) : List Bool := [(s.handshakeOf c).1, (s.handshakeOf c).2]

/-- `FQ_CW` (R109): a push, and a pop, of this tick. Room and visibility are those of R133, under
which alone the channel transfers; `tls.q` is pushed and popped by the TLP Sender's transfers
(R132). -/
def fqWord (s : State) : FifoId → List Bool
  | .rxq => [s.lk.rxqSink.xfer && sinkReady s.rxq s.cfg.rxqDepth,
      s.sy.dpkSink.xfer && sourceValid s.rxq]
  | .txq => [s.sy.pktSource.xfer && sinkReady s.txq s.cfg.txqDepth,
      s.lk.txqSource.xfer && sourceValid s.txq]
  | .tlsq => [s.sy.tlpTxIn.xfer,
      (portChan s.sy.outPorts s.cfg.tlpPort).xfer && popsLane s]

/-- `LBF_CW` (R102). -/
def lbfWord (s : State) : List Bool :=
  s.lbf.st.code ++ [wantsTransmit s, wantsReceive s, timeoutBit s]

/-- `PKT_CW` (R103). -/
def pktWord (s : State) : List Bool :=
  s.pkt.st.code ++ hidxCode s.pkt.hidx ++ [s.sy.mTx.valid, s.sy.mTx.pay.last, s.sy.pktSource.ready]

/-- `DPK_CW` (R104). -/
def dpkControl (s : State) : List Bool :=
  s.dpk.st.code ++ [timerDone s, s.dpk.hcnt, s.sy.dpkSink.valid, s.sy.pm, dpkLastWord s,
    s.sy.dpkSource.ready]

/-- `XD_CW` (R105). -/
def xdWord (s : State) : List Bool :=
  [s.sy.dpkSource.valid, !noHit s, s.sy.dpkSource.pay.last, hitReady s]

/-- `XA_CW` (R106). -/
def xaWord (s : State) : List Bool :=
  [grantRequests s, outValid s s.xbar.grant, (portChan s.sy.outPorts s.xbar.grant).pay.last,
    s.sy.mTx.ready, otherRequests s]

/-- `TS_CW` (R107). -/
def tlsControl (s : State) : List Bool :=
  [s.tls.st == .send, s.sy.tlpTxIn.valid, s.sy.tlpTxIn.pay.last, fillsQueue s, s.tls.half,
    headHasUpper s, tlsLastWord s, (portChan s.sy.outPorts s.cfg.tlpPort).ready]

/-- `TR_CW` (R108). -/
def tlrWord (s : State) : List Bool :=
  let i := portChan s.sy.inPorts s.cfg.tlpPort
  [s.tlr.haveLow, i.valid, i.pay.last, s.sy.tlpRxOut.ready]

/-- The word a site presents (R100, R109): a control word, the frame word on `dpk.sink` (R90), or
no bits where nothing selects the operation. -/
def controlWord (s : State) : Site → Raw
  | .lp _ => .frame s.sy.dpkSink.pay
  | .ch c => .bits (chWord s c)
  | .fq q => .bits (fqWord s q)
  | .sync _ _ _ => .bits []
  | .lbf => .bits (lbfWord s)
  | .pkt => .bits (pktWord s)
  | .dpk => .bits (dpkControl s)
  | .xd => .bits (xdWord s)
  | .xa => .bits (xaWord s)
  | .tls => .bits (tlsControl s)
  | .tlr => .bits (tlrWord s)
  | .rstLink => .bits [s.lk.rst]
  | .rstSys => .bits [s.sy.rst]
  | .regPort _ => .bits []

end Sys2Proof.Machine
end

