-- ==== Sys2Proof/Machine/Fetch.lean ====
section
/-! DEFINITION. How operations come to execute: opening the next event (settling the wires of the
domains that tick and listing the sites that execute), and presenting a given word at its site. -/

namespace Sys2Proof.Machine

/-- The channels of the link domain (R311). -/
def linkChannels : List ChanId := [.linkRx, .rxqSink, .txqSource, .linkTx]

/-- The channels of the system domain (R312, R313). -/
def sysChannels (c : Cfg) : List ChanId :=
  [.dpkSink, .dpkSource] ++ (List.range c.nPorts).map .inPort ++ [.tlpRxOut, .tlpTxIn] ++
    (List.range c.nPorts).map .outPort ++ [.mTx, .pktSource]

/-- The frame word that is transferred on `dpk.sink` in this tick, if one is. -/
def frameSite (s : State) : List Site :=
  if s.sy.dpkSink.valid && s.sy.dpkSink.ready then (framePos s).toList.map .lp else []

/-- The sites of a link tick (R12): every channel and the Link-Bus FSM, or the reset alone. -/
def linkSites (i : LinkIn) : List Site :=
  if i.rst then [.rstLink] else linkChannels.map .ch ++ [.lbf]

/-- The sites of a system tick (R12), on a state whose system wires are settled: every channel and
every component, or the reset alone. -/
def sysSites (s : State) (i : SysIn) : List Site :=
  if i.rst then [.rstSys]
  else (sysChannels s.cfg).map .ch ++ [.dpk] ++ frameSite s ++ [.xd, .tlr, .tls, .xa, .pkt]

/-- The cross-domain FIFOs of a tick. A FIFO executes after the channels at its ends. -/
def fifoSites : List Site := [.fq .rxq, .fq .txq]

/-- A domain ticks with its reset input at 0. -/
def runsLow (link : Option LinkIn) (sys : Option SysIn) : Bool :=
  (match link with | some i => !i.rst | none => false) ||
    (match sys with | some i => !i.rst | none => false)

/-- A tick with the reset input at 0 ends the interval in which both resets are asserted; a reset
tick of a domain begins or continues it (R319). -/
def holdResets (s : State) (link : Option LinkIn) (sys : Option SysIn) : State :=
  if runsLow link sys then { s with linkHeld := false, sysHeld := false }
  else { s with linkHeld := s.linkHeld || link.isSome, sysHeld := s.sysHeld || sys.isSome }

/-- A tick opens: the wires of the domains that tick settle from the state and the inputs (R6,
R316), those of the others are off, and the sites of the tick are listed. The spec has no event in
which neither domain ticks (R344); that one is admitted, turns the wires off and sets `started`, so
that the port table closes, is a DESIGN CHOICE (log entry 25). -/
def openTick (s : State) (link : Option LinkIn) (sys : Option SysIn) : State :=
  let t := { holdResets s link sys with
    started := true
    lk := match link with | some i => settleLink s i | none => LinkWires.off
    sy := match sys with | some i => settleSys s i | none => SysWires.off }
  t.setAgenda
    ((match link with | some i => linkSites i | none => []) ++
      (match sys with | some i => sysSites t i | none => []) ++ fifoSites)

/-- An event opens. A tick under a configuration that R5 does not admit is the configuration error
of R334. A synchroniser step is no tick, and the spec says neither what the wires and the event
pulses show during it nor that a refused configuration has one: that it leaves the wires of the
latest tick standing is a DESIGN CHOICE (log entry 26), that it goes on under every configuration
another (log entry 27). -/
def openEvent (s : State) : Event → Out
  | .tick link sys =>
    if s.cfg.admitted then .next (openTick s link sys) else raiseCause .configError s
  | .sync q v f => .next (s.setAgenda [.sync q v f])

/-- The next event: a placed one, else the environment's free choice (R13). -/
def nextEvent (s : State) : Event := s.stim.headD (Config.envEvent s.now)

/-- With nothing left to execute, the elaboration registers its next tag before the first tick
(R320, R364); otherwise the next event opens. -/
def openNext (s : State) : Out :=
  match s.started, s.pendingTags with
  | false, t :: ts => .next { s with pendingTags := ts, agenda := [.regPort t] }
  | _, _ => openEvent { s with stim := s.stim.tail, now := s.now + 1 } (nextEvent s)

/-! ### Presenting a given word at its site -/

/-- A natural number that is 0 exactly where the bit is 1. -/
def zeroIf (b : Bool) : Nat := if b then 0 else 1

/-- A channel with the given `CH_CW` bits. -/
def presentHandshake {α : Type} (v r : Bool) (c : Chan α) : Chan α :=
  { c with valid := v, ready := r }

/-- The channel with the given `CH_CW` bits. -/
def presentCh (s : State) (v r : Bool) : ChanId → State
  | .linkRx => s.setLk { s.lk with linkRx := presentHandshake v r s.lk.linkRx }
  | .rxqSink => s.setLk { s.lk with rxqSink := presentHandshake v r s.lk.rxqSink }
  | .txqSource => s.setLk { s.lk with txqSource := presentHandshake v r s.lk.txqSource }
  | .linkTx => s.setLk { s.lk with linkTx := presentHandshake v r s.lk.linkTx }
  | .dpkSink => s.setSy { s.sy with dpkSink := presentHandshake v r s.sy.dpkSink }
  | .dpkSource => s.setSy { s.sy with dpkSource := presentHandshake v r s.sy.dpkSource }
  | .inPort i => s.setSy { s.sy with inPorts := s.sy.inPorts.modify i (presentHandshake v r) }
  | .tlpRxOut => s.setSy { s.sy with tlpRxOut := presentHandshake v r s.sy.tlpRxOut }
  | .tlpTxIn => s.setSy { s.sy with tlpTxIn := presentHandshake v r s.sy.tlpTxIn }
  | .outPort i => s.setSy { s.sy with outPorts := s.sy.outPorts.modify i (presentHandshake v r) }
  | .mTx => s.setSy { s.sy with mTx := presentHandshake v r s.sy.mTx }
  | .pktSource => s.setSy { s.sy with pktSource := presentHandshake v r s.sy.pktSource }

/-- `FQ_CW` of `rxq`: its two transfers, with room for a push and a visible word for a pop. -/
def presentRxq (s : State) (push pop : Bool) : State :=
  (((s.setLk { s.lk with rxqSink := flagXfer push s.lk.rxqSink }).setSy
    { s.sy with dpkSink := flagXfer pop s.sy.dpkSink }).setCfg
      { s.cfg with rxqDepth := s.rxq.items.length + s.rxq.freed + 2 }).setRxq
        (if pop && s.rxq.vis == 0 then { s.rxq with items := 0 :: s.rxq.items, vis := 1 } else s.rxq)

/-- `LBF_CW`: the state of the code, wires for the wants and a budget for the timeout bit. -/
def presentLbf (s : State) (st : LbfSt) (wt wr tb : Bool) : State :=
  ((s.setLk { s.lk with
      txqSource := { s.lk.txqSource with valid := wt }
      linkTx := { s.lk.linkTx with ready := true }
      linkRx := { s.lk.linkRx with valid := wr }
      rxqSink := { s.lk.rxqSink with ready := true } }).setLbf
    ⟨st, zeroIf tb, zeroIf tb⟩).setCfg { s.cfg with tRx := 2, tTx := 2 }

/-- `PKT_CW`: state and header index of their codes, wires for the rest. -/
def presentPkt (s : State) (st : PktSt) (hidx : Fin 3) (sv sl dr : Bool) : State :=
  (s.setSy { s.sy with
      mTx := { s.sy.mTx with valid := sv, pay := { s.sy.mTx.pay with last := sl } }
      pktSource := { s.sy.pktSource with ready := dr } }).setPkt ⟨st, hidx⟩

/-- `DPK_CW`: state, timer and counts of their bits, wires for the rest. -/
def presentDpk (s : State) (st : DpkSt) (td hc sv pm lw dr : Bool) : State :=
  (s.setSy { s.sy with
      dpkSink := { s.sy.dpkSink with valid := sv, pay := if pm then preamble else 0 }
      pm := pm
      dpkSource := { s.sy.dpkSource with ready := dr } }).setDpk
    { s.dpk with
      st := st, hcnt := hc, timer := zeroIf td, lenR := 2, cnt := if lw then 1 else 0 }

/-- A tag that is, or is not, the key of a port; without a port there is none that is. -/
def tagFor (c : Cfg) (hit : Bool) : Tag :=
  if hit then c.tags.headD 0
  else (((List.range 256).map (BitVec.ofNat 8)).find? fun t => !c.tags.contains t).getD 0

/-- `XD_CW`: a word for a port or for none, and that port's `ready`. -/
def presentXd (s : State) (mv ht ml ir : Bool) : State :=
  s.setSy { s.sy with
    dpkSource :=
      ⟨mv, ir, s.sy.dpkSource.xfer,
        { s.sy.dpkSource.pay with last := ml, dst := tagFor s.cfg ht }⟩
    inPorts := (List.range s.cfg.nPorts).map fun i =>
      { portChan s.sy.inPorts i with ready := ir } }

/-- `XA_CW`: offers at the granted port and at the others, and the lock. -/
def presentXa (s : State) (rq gv gl mr ot : Bool) : State :=
  (s.setSy { s.sy with
      outPorts := (List.range s.cfg.nPorts).map fun i =>
        let c := portChan s.sy.outPorts i
        if i = s.xbar.grant then { c with valid := gv, pay := { c.pay with last := gl } }
        else { c with valid := ot }
      mTx := { s.sy.mTx with ready := mr } }).setXbar { s.xbar with locked := rq && !gv }

/-- `TS_CW`: state, a lane at the head, a depth and counts of their bits, wires for the rest. -/
def presentTls (s : State) (st : TlsSt) (iv il ff hf uh lw ordy : Bool) : State :=
  let be : ByteEnable := if uh then 0xFF else 0x0F
  ((s.setSy { s.sy with
      tlpTxIn := { s.sy.tlpTxIn with valid := iv, pay := { s.sy.tlpTxIn.pay with last := il } }
      outPorts := (List.range s.cfg.nPorts).map fun i =>
        { portChan s.sy.outPorts i with ready := ordy } }).setTls
    ⟨st, [⟨(headLane s).data, be⟩], 2, if lw then 1 else 0, hf⟩).setCfg
      { s.cfg with tlpTxqDepth := if ff then 2 else 3 }

/-- `TR_CW`: the stored-half bit and wires for the rest. -/
def presentTlr (s : State) (hl iv il ordy : Bool) : State :=
  (s.setSy { s.sy with
      inPorts := (List.range s.cfg.nPorts).map fun i =>
        let c := portChan s.sy.inPorts i
        { c with valid := iv, pay := { c.pay with last := il } }
      tlpRxOut := { s.sy.tlpRxOut with ready := ordy } }).setTlr { s.tlr with haveLow := hl }

/-- The state with registers and wires such that the site presents the word: a control word is made
of them (R100), so that is where it is stored. A word that no state presents leaves them as they
are. -/
def present (s : State) : Site → Raw → State
  | .lp _, .frame w => s.setSy { s.sy with dpkSink := { s.sy.dpkSink with pay := w } }
  | .ch c, .bits [v, r] => presentCh s v r c
  | .fq .rxq, .bits [push, pop] => presentRxq s push pop
  | .lbf, .bits [false, false, wt, wr, tb] => presentLbf s .receive wt wr tb
  | .lbf, .bits [false, true, wt, wr, tb] => presentLbf s .receiveToTransmit wt wr tb
  | .lbf, .bits [true, false, wt, wr, tb] => presentLbf s .transmit wt wr tb
  | .lbf, .bits [true, true, wt, wr, tb] => presentLbf s .transmitToReceive wt wr tb
  | .pkt, .bits [false, false, _, _, sv, sl, dr] => presentPkt s .idle 0 sv sl dr
  | .pkt, .bits [false, true, false, false, sv, sl, dr] => presentPkt s .insertHeader 0 sv sl dr
  | .pkt, .bits [false, true, false, true, sv, sl, dr] => presentPkt s .insertHeader 1 sv sl dr
  | .pkt, .bits [false, true, true, _, sv, sl, dr] => presentPkt s .insertHeader 2 sv sl dr
  | .pkt, .bits [true, _, _, _, sv, sl, dr] => presentPkt s .copy 0 sv sl dr
  | .dpk, .bits [false, false, td, hc, sv, pm, lw, dr] => presentDpk s .idle td hc sv pm lw dr
  | .dpk, .bits [false, true, td, hc, sv, pm, lw, dr] =>
    presentDpk s .receiveHeader td hc sv pm lw dr
  | .dpk, .bits [true, _, td, hc, sv, pm, lw, dr] => presentDpk s .copy td hc sv pm lw dr
  | .xd, .bits [mv, ht, ml, ir] => presentXd s mv ht ml ir
  | .xa, .bits [rq, gv, gl, mr, ot] => presentXa s rq gv gl mr ot
  | .tls, .bits [false, iv, il, ff, hf, uh, lw, ordy] => presentTls s .fill iv il ff hf uh lw ordy
  | .tls, .bits [true, iv, il, ff, hf, uh, lw, ordy] => presentTls s .send iv il ff hf uh lw ordy
  | .tlr, .bits [hl, iv, il, ordy] => presentTlr s hl iv il ordy
  | .rstLink, .bits [b] => s.setLk { s.lk with rst := b }
  | .rstSys, .bits [b] => s.setSy { s.sy with rst := b }
  | _, _ => s

/-- The indexed channels of the port table exist on the wires. -/
def withPortWires (s : State) : State :=
  s.setSy { s.sy with
    inPorts := (List.range s.cfg.nPorts).map (portChan s.sy.inPorts)
    outPorts := (List.range s.cfg.nPorts).map (portChan s.sy.outPorts) }

/-- The bare table word stands at its site, which is the next to execute (log entry 12). -/
def placeWord (s : State) (nbits w : Nat) : State :=
  match tableRow nbits w with
  | some (r, _) => (present (withPortWires s) r.site (r.raw w)).setAgenda (r.site :: s.agenda)
  | none => s

end Sys2Proof.Machine
end

