-- ==== Sys2Proof/Machine/Step.lean ====
section
/-! DEFINITION. One step of the link core: the site that is next to execute presents its word, the
word selects one operation, and the operation executes; with no site left the next event opens. -/

namespace Sys2Proof.Machine

/-- One step. An event in which `n` sites execute takes `n + 1` steps: the opening, which settles
the wires of its ticks, and one operation each (R6, R11). -/
def step (s : State) : Host.Outcome State Fault Refusal :=
  match s.agenda with
  | [] => openNext s
  | site :: rest =>
    match decode site (controlWord s site) with
    | .ok i => exec i (s.setAgenda rest)
    | .error why => .refused (.noOperation why)

/-- The state in which the very next step presents the bare table word and executes what it
selects. -/
def State.withFetchWord (s : State) (nbits w : Nat) : State := placeWord s nbits w

end Sys2Proof.Machine
end

