-- ==== Sys2Proof/Safety.lean ====
section
/-! DEFINITION. What counts as a safe run of the link core, in the terms that statements use: what a
site selects, the registers of a state and the pure function that a tick applies to them (R6), the
invariants of R27 to R42, R131 and R276, the conditions under which no step stops, whole events as
runs of steps, quiescence (R14), and single components fed with sequences of words. -/

namespace Sys2Proof.Machine

/-! ### Selection -/

/-- The operation that the word of a site selects, or the refusal (R11, R100). -/
def selects (s : State) (site : Site) : Except Reject Instr := decode site (controlWord s site)

/-- The component halves, each of which executes one operation per tick of its domain (R11). -/
def componentSites : List Site := [.lbf, .dpk, .xd, .tlr, .tls, .xa, .pkt]

/-- The flag `xfer(c)` that the latest channel operation drove (R124 to R126). -/
def State.xferOf (s : State) : ChanId → Bool
  | .linkRx => s.lk.linkRx.xfer
  | .rxqSink => s.lk.rxqSink.xfer
  | .txqSource => s.lk.txqSource.xfer
  | .linkTx => s.lk.linkTx.xfer
  | .dpkSink => s.sy.dpkSink.xfer
  | .dpkSource => s.sy.dpkSource.xfer
  | .inPort i => (portChan s.sy.inPorts i).xfer
  | .tlpRxOut => s.sy.tlpRxOut.xfer
  | .tlpTxIn => s.sy.tlpTxIn.xfer
  | .outPort i => (portChan s.sy.outPorts i).xfer
  | .mTx => s.sy.mTx.xfer
  | .pktSource => s.sy.pktSource.xfer

/-- The link wires, their transfer flags put aside. -/
def LinkWires.withoutXfer (w : LinkWires) : LinkWires :=
  { w with
    linkRx := flagXfer false w.linkRx
    rxqSink := flagXfer false w.rxqSink
    txqSource := flagXfer false w.txqSource
    linkTx := flagXfer false w.linkTx }

/-- The system wires, their transfer flags put aside. -/
def SysWires.withoutXfer (w : SysWires) : SysWires :=
  { w with
    dpkSink := flagXfer false w.dpkSink
    dpkSource := flagXfer false w.dpkSource
    inPorts := w.inPorts.map (flagXfer false)
    tlpRxOut := flagXfer false w.tlpRxOut
    tlpTxIn := flagXfer false w.tlpTxIn
    outPorts := w.outPorts.map (flagXfer false)
    mTx := flagXfer false w.mTx
    pktSource := flagXfer false w.pktSource }

/-- `t` differs from `s` in the transfer flag of the channel `c` at most. -/
def OnlyXferOf (c : ChanId) (s t : State) : Prop :=
  t = { s with lk := t.lk, sy := t.sy } ∧ t.lk.withoutXfer = s.lk.withoutXfer ∧
    t.sy.withoutXfer = s.sy.withoutXfer ∧ ∀ d, d ≠ c → t.xferOf d = s.xferOf d

/-- `valid & ready` (R121). -/
def transfers {α : Type} (c : Chan α) : Bool := c.valid && c.ready

/-! ### The registers -/

/-- The registers and FIFOs of R20 to R43 and the ghost counters of R131: the state of the link core
without the wires and the model's own bookkeeping. -/
structure Regs where
  lbf  : Lbf
  pkt  : Pkt
  dpk  : Dpk
  xbar : Xbar
  tls  : Tls
  tlr  : Tlr
  rxq  : Afifo
  txq  : Afifo
  deriving DecidableEq, Repr

/-- The registers of a state. -/
def State.regs (s : State) : Regs := ⟨s.lbf, s.pkt, s.dpk, s.xbar, s.tls, s.tlr, s.rxq, s.txq⟩

/-- The registers after the reset of both domains (R47). -/
def Regs.reset (c : Cfg) : Regs :=
  ⟨Lbf.reset c, Pkt.reset, Dpk.reset c, Xbar.reset, Tls.reset, Tlr.reset, .empty, .empty⟩

/-! ### The pure function of a tick (R6)

The next registers, written from the rules' next-state assignments (R379) as functions of the
registers and the settled wires of the tick, without a control word or an operation. -/

/-- `lbf.st`: the document's transition rule, quoted before R148. -/
def nextLbfSt (st : LbfSt) (wantsTx wantsRx spent : Bool) : LbfSt :=
  match st with
  | .receive => if wantsTx && (!wantsRx || spent) then .receiveToTransmit else .receive
  | .receiveToTransmit => .transmit
  | .transmit => if wantsRx && (!wantsTx || spent) then .transmitToReceive else .transmit
  | .transmitToReceive => .receive

/-- `lbf` after a link tick with the wires `w` (R144, R148 to R157). -/
def nextLbf (c : Cfg) (l : Lbf) (w : LinkWires) : Lbf where
  st := nextLbfSt l.st (w.txqSource.valid && w.linkTx.ready) (w.linkRx.valid && w.rxqSink.ready)
    (match l.st with
     | .transmit => c.tTx != 0 && l.txTime == 0
     | _ => c.tRx != 0 && l.rxTime == 0)
  rxTime := if c.tRx = 0 then l.rxTime else if l.st = .receive then l.rxTime - 1 else c.tRx - 1
  txTime := if c.tTx = 0 then l.txTime else if l.st = .transmit then l.txTime - 1 else c.tTx - 1

/-- `pkt` after a system tick with the wires `w` (R174 to R183). -/
def nextPkt (p : Pkt) (w : SysWires) : Pkt :=
  match p.st with
  | .idle => if w.mTx.valid then ⟨.insertHeader, 0⟩ else p
  | .insertHeader =>
    if w.pktSource.ready then
      if p.hidx = 0 then ⟨.insertHeader, 1⟩
      else if p.hidx = 1 then ⟨.insertHeader, 2⟩
      else ⟨.copy, 0⟩
    else p
  | .copy =>
    if w.mTx.valid && w.mTx.pay.last && w.pktSource.ready then { p with st := .idle } else p

/-- `dpk.timer` after a system tick (R193). -/
def timerAfter (c : Cfg) (d : Dpk) (taken : Bool) : Nat :=
  if d.st = .idle then c.depackTimeout - 1
  else if c.depackTimerRestartOnWord && taken then c.depackTimeout - 1
  else d.timer - 1

/-- `dpk` after a system tick with the wires `w` (R193, R196, R197 to R208). -/
def nextDpk (c : Cfg) (d : Dpk) (w : SysWires) : Dpk :=
  let e := { d with
    timer := timerAfter c d (transfers w.dpkSink)
    cnt := if d.st = .idle then 0 else d.cnt }
  let aborted := { e with st := .idle, hcnt := false, abortCount := d.abortCount + 1 }
  match d.st with
  | .idle =>
    if w.dpkSink.valid && w.dpkSink.pay == preamble then
      { e with st := .receiveHeader, hcnt := false }
    else e
  | .receiveHeader =>
    if d.timer = 0 then aborted
    else if !w.dpkSink.valid then e
    else if d.hcnt then { e with lenR := w.dpkSink.pay, hcnt := false, st := .copy }
    else { e with dstR := w.dpkSink.pay.extractLsb' 0 8, hcnt := true }
  | .copy =>
    if d.timer = 0 then aborted
    else if !(w.dpkSink.valid && w.dpkSource.ready) then e
    else if d.cnt = (if d.lenR = 0 then 1 else d.lenR) - 1 then { e with st := .idle }
    else { e with cnt := d.cnt + 1 }

/-- `next(g)` on the `out` channels `l` (R240). -/
def nextGrantOf (n g : Nat) (l : List (Chan UpWord)) : Nat :=
  ((portsAfter n g).find? fun j => (portChan l j).valid).getD g

/-- `xbar` after a system tick with the wires `w` (R233 to R237, R241 to R247). -/
def nextXbar (c : Cfg) (x : Xbar) (w : SysWires) : Xbar where
  grant :=
    let g := portChan w.outPorts x.grant
    if (!g.valid && !x.locked) || (g.valid && g.pay.last && w.mTx.ready) then
      nextGrantOf c.nPorts x.grant w.outPorts
    else x.grant
  locked :=
    let g := portChan w.outPorts x.grant
    if g.valid && w.mTx.ready then !g.pay.last else x.locked
  unroutedCount :=
    if w.dpkSource.valid && (hitPort c w.dpkSource.pay.dst).isNone && w.dpkSource.pay.last then
      x.unroutedCount + 1
    else x.unroutedCount

/-- `tls` after a system tick with the wires `w` (R266 to R274). -/
def nextTls (c : Cfg) (t : Tls) (w : SysWires) : Tls :=
  match t.st with
  | .fill =>
    if w.tlpTxIn.valid then
      let l := w.tlpTxIn.pay
      let q := t.q ++ [⟨l.data, l.be⟩]
      let n := t.wcount + laneWords l.be
      if l.last || q.length == c.tlpTxqDepth then ⟨.send, q, n, 0, false⟩
      else { t with q := q, wcount := n }
    else t
  | .send =>
    if (portChan w.outPorts c.tlpPort).ready then
      if t.sent + 1 = t.wcount then ⟨.fill, t.q.tail, 0, 0, false⟩
      else if t.half then { t with q := t.q.tail, sent := t.sent + 1, half := false }
      else if (t.q.head?.map fun l => laneWords l.be) = some 2 then
        { t with sent := t.sent + 1, half := true }
      else { t with q := t.q.tail, sent := t.sent + 1 }
    else t

/-- `tlr` after a system tick with the wires `w` (R294 to R299). -/
def nextTlr (c : Cfg) (t : Tlr) (w : SysWires) : Tlr :=
  let i := portChan w.inPorts c.tlpPort
  if !i.valid then t
  else if t.haveLow then { t with haveLow := !w.tlpRxOut.ready }
  else if i.pay.last then t
  else ⟨i.pay.data, true⟩

/-- A cross-domain FIFO after the pop and the push of a tick (R128 to R131). -/
def nextFifo (q : Afifo) (popped : Bool) (pushed : Option Word) : Afifo :=
  let r := if popped then ⟨q.items.tail, q.vis - 1, q.freed + 1⟩ else q
  match pushed with
  | some w => { r with items := r.items ++ [w] }
  | none => r

/-- The link wires of a tick; all off where the domain does not tick. -/
def linkWiresOf (s : State) : Option LinkIn → LinkWires
  | some i => settleLink s i
  | none => LinkWires.off

/-- The system wires of a tick; all off where the domain does not tick. -/
def sysWiresOf (s : State) : Option SysIn → SysWires
  | some i => settleSys s i
  | none => SysWires.off

/-- The tick resets its domain. -/
def resetsLink (link : Option LinkIn) : Bool := link.any LinkIn.rst
def resetsSys (sys : Option SysIn) : Bool := sys.any SysIn.rst

/-- The tick completes an interval in which both resets are asserted (R318, R319). -/
def clearsFifos (s : State) (link : Option LinkIn) (sys : Option SysIn) : Bool :=
  !runsLow link sys && ((resetsLink link && (s.sysHeld || sys.isSome)) ||
    (resetsSys sys && (s.linkHeld || link.isSome)))

/-- The registers after a tick, as one function of the registers before it and the inputs (R6). The
wires settle with the count of the event itself, on which only the free values depend. -/
def tickRegs (s : State) (link : Option LinkIn) (sys : Option SysIn) : Regs :=
  let u := { s with now := s.now + 1 }
  let lw := linkWiresOf u link
  let sw := sysWiresOf u sys
  let sysRuns := sys.isSome && !resetsSys sys
  { lbf := if resetsLink link then Lbf.reset s.cfg
      else if link.isSome then nextLbf s.cfg s.lbf lw else s.lbf
    pkt := if resetsSys sys then Pkt.reset else if sysRuns then nextPkt s.pkt sw else s.pkt
    dpk := if resetsSys sys then Dpk.reset s.cfg
      else if sysRuns then nextDpk s.cfg s.dpk sw else s.dpk
    xbar := if resetsSys sys then Xbar.reset
      else if sysRuns then nextXbar s.cfg s.xbar sw else s.xbar
    tls := if resetsSys sys then Tls.reset
      else if sysRuns then nextTls s.cfg s.tls sw else s.tls
    tlr := if resetsSys sys then Tlr.reset
      else if sysRuns then nextTlr s.cfg s.tlr sw else s.tlr
    rxq := if clearsFifos s link sys then .empty
      else nextFifo s.rxq (transfers sw.dpkSink)
        (if transfers lw.rxqSink then some lw.rxqSink.pay else none)
    txq := if clearsFifos s link sys then .empty
      else nextFifo s.txq (transfers lw.txqSource)
        (if transfers sw.pktSource then some sw.pktSource.pay.data else none) }

/-! ### Invariants -/

/-- The invariants of the TLP Sender (R276 (a) and (b)); the half that has still to be sent is one
that the head lane has, and the FIFO holds no more than its capacity. -/
def TlsInv (depth : Nat) (t : Tls) : Prop :=
  match t.st with
  | .fill => t.q.length < depth ∧ t.wcount = queuedWords t.q
  | .send =>
    t.q ≠ [] ∧ 1 ≤ t.wcount ∧ t.sent + queuedWords t.q = t.wcount + t.half.toNat ∧
      (t.half = true → (t.q.head?.map fun l => laneWords l.be) = some 2) ∧ t.q.length ≤ depth

/-- What every step keeps: an admitted configuration (R5), the ranges of the counters (R27, R28,
R34, R35), `pkt.hidx` 0 outside `INSERT_HEADER` (R29), `dpk.hcnt` 0 outside `RECEIVE_HEADER` (R30),
the ranges of the ghost counters (R131) and the invariants of the TLP Sender (R276). The last
clause is about the model's own agenda: `tls.q` is pushed and popped by the TLP Sender's operations
alone (R132). -/
structure Inv (s : State) : Prop where
  admitted : s.cfg.admitted = true
  rxBudget : s.lbf.rxTime ≤ s.cfg.tRx - 1
  txBudget : s.lbf.txTime ≤ s.cfg.tTx - 1
  hidx     : s.pkt.st ≠ .insertHeader → s.pkt.hidx = 0
  hcnt     : s.dpk.hcnt = true → s.dpk.st = .receiveHeader
  timer    : s.dpk.timer ≤ s.cfg.depackTimeout - 1
  grant    : s.xbar.grant < s.cfg.nPorts
  rxq      : s.rxq.wf s.cfg.rxqDepth = true
  txq      : s.txq.wf s.cfg.txqDepth = true
  tls      : TlsInv s.cfg.tlpTxqDepth s.tls
  noTlsq   : Site.fq .tlsq ∉ s.agenda

/-- The sites that are still to execute present a word that selects an operation: no port is left to
register, a reset site has its input at 1, and a frame word listed as `W0` is the preamble. -/
structure Live (s : State) : Prop where
  elaborated : s.started = true ∨ s.pendingTags = []
  noRegPort  : ∀ t, Site.regPort t ∉ s.agenda
  linkReset  : Site.rstLink ∈ s.agenda → s.lk.rst = true
  sysReset   : Site.rstSys ∈ s.agenda → s.sy.rst = true
  frameStart : Site.lp .w0 ∈ s.agenda → s.sy.dpkSink.pay = preamble ∧ Site.rstSys ∉ s.agenda

/-- Between two events: nothing is left to execute and no port is left to register. -/
def AtRest (s : State) : Prop := s.agenda = [] ∧ (s.started = true ∨ s.pendingTags = [])

/-- The link core is quiescent (R14), but for the inputs' `valid`. -/
def Quiescent (s : State) : Prop :=
  s.rxq.items = [] ∧ s.txq.items = [] ∧ s.tls.q = [] ∧ s.pkt.st = .idle ∧ s.dpk.st = .idle ∧
    s.tls.st = .fill ∧ s.tls.wcount = 0 ∧ s.tlr.haveLow = false ∧ s.xbar.locked = false

/-- The environment asserts no `valid` and no reset in a link tick. -/
def linkIdle (i : LinkIn) : Prop := i.rst = false ∧ i.rxValid = false

/-- The environment asserts no `valid` and no reset in a system tick. -/
def sysIdle (i : SysIn) : Prop :=
  i.rst = false ∧ i.tlpTxValid = false ∧ ∀ p ∈ i.ports, p.outValid = false

/-- The system wires satisfy every output rule at once (R173, R195, R232, R238, R264, R292): driving
any component's outputs again changes nothing. -/
def SysSettled (s : State) (w : SysWires) : Prop :=
  dpkAccept s (dpkOffer s w) = w ∧ xdAccept s (xdOffer s w) = w ∧ tlrAccept s (tlrOffer s w) = w ∧
    tlsAccept s (tlsOffer s w) = w ∧ xaAccept s (xaOffer s w) = w ∧ pktAccept s (pktOffer s w) = w

/-! ### Whole events -/

/-- The event `e` happens: it is placed, opened, and all its sites execute. -/
def perform (e : Event) (s : State) : Out :=
  match step { s with stim := [e] } with
  | .next t => Host.Core.run Sys2Proof.core t.agenda.length t
  | stop => stop

/-- A sequence of events. -/
def performAll : List Event → State → Out
  | [], s => .next s
  | e :: es, s =>
    match perform e s with
    | .next t => performAll es t
    | stop => stop

/-- Every event of the sequence meets `P` in the state in which it happens. -/
def along (P : State → Event → Prop) : List Event → State → Prop
  | [], _ => True
  | e :: es, s => P s e ∧ ∀ t, perform e s = .next t → along P es t

/-- The link wants to transmit, and to receive, in a tick with the input `i` (R143). -/
def linkWantsTx (s : State) (i : LinkIn) : Bool := sourceValid s.txq && i.txReady
def linkWantsRx (s : State) (i : LinkIn) : Bool := i.rxValid && sinkReady s.rxq s.cfg.rxqDepth

/-- The event is a link tick, not in reset, whose input meets `P`; the system domain may tick at the
same instant. -/
def LinkTick (P : LinkIn → Prop) (e : Event) : Prop :=
  ∃ i sys, e = .tick (some i) sys ∧ i.rst = false ∧ P i

/-- The event is a system tick, not in reset; the link domain may tick at the same instant. -/
def SysTick (e : Event) : Prop := ∃ link i, e = .tick link (some i) ∧ i.rst = false

/-- The event ticks the system domain. -/
def ticksSys : Event → Bool
  | .tick _ (some _) => true
  | _ => false

/-- The event does not reset the system domain; it may be one in which that domain does not tick. -/
def NoSysReset (e : Event) : Prop := ticksSys e = true → SysTick e

/-- The system wires of the event, if that domain ticks in it. -/
def sysWiresAt (s : State) : Event → Option SysWires
  | .tick _ (some i) => some (settleSys { s with now := s.now + 1 } i)
  | _ => none

/-- The event transfers a word on `dpk.sink`. -/
def takesWord (s : State) (e : Event) : Bool := (sysWiresAt s e).any fun w => transfers w.dpkSink

/-- The event transfers a frame's last word on `dpk.source`, as only DPK.COPY_LAST does. -/
def endsFrame (s : State) (e : Event) : Bool :=
  (sysWiresAt s e).any fun w => transfers w.dpkSource && w.dpkSource.pay.last

/-! ### One component alone, fed with a sequence -/

/-- The site executes the operation that its word selects. -/
def runSite (site : Site) (s : State) : Out :=
  match selects s site with
  | .ok i => exec i s
  | .error why => .refused (.noOperation why)

/-- A channel with a word, if there is one, offered by its producer. -/
def feedChan {α : Type} [Inhabited α] (ready : Bool) : List α → Chan α
  | [] => ⟨false, ready, false, default⟩
  | a :: _ => ⟨true, ready, false, a⟩

/-- The Packetizer for `n` ticks: the words of `us` are offered on `pkt.sink` in turn, `pkt.source`
is always ready, and the words transferred on `pkt.source` are collected. -/
def packetize : Nat → List UpWord → State → List LastWord × State
  | 0, _, s => ([], s)
  | n + 1, us, s =>
    let t := drivePkt (s.setSy { s.sy with mTx := feedChan false us, pktSource := feedChan true [] })
    match runSite .pkt t with
    | .next t' =>
      let r := packetize n (if transfers t.sy.mTx then us.tail else us) t'
      ((if transfers t.sy.pktSource then [t.sy.pktSource.pay] else []) ++ r.1, r.2)
    | _ => ([], s)

/-- The Depacketizer for `n` ticks: the words of `ws` are offered on `dpk.sink` in turn,
`dpk.source` is always ready, and the words transferred on `dpk.source` are collected. -/
def depacketize : Nat → List Word → State → List UpWord × State
  | 0, _, s => ([], s)
  | n + 1, ws, s =>
    let u := driveDpk (s.setSy { s.sy with
      dpkSink := feedChan false ws
      pm := (feedChan false ws).pay == preamble
      dpkSource := feedChan true [] })
    let t := u.setXfer .dpkSink (transfers u.sy.dpkSink)
    match runSite .dpk t with
    | .next t' =>
      let r := depacketize n (if transfers t.sy.dpkSink then ws.tail else ws) t'
      ((if transfers t.sy.dpkSource then [t.sy.dpkSource.pay] else []) ++ r.1, r.2)
    | _ => ([], s)

/-- The TLP Sender for `n` ticks: the lanes are offered on `tlp_tx_in` in turn, `tls.out` is always
ready, and the words transferred on `tls.out` are collected. -/
def sendLanes : Nat → List Lane → State → List UpWord × State
  | 0, _, s => ([], s)
  | n + 1, ls, s =>
    let t := driveTls (s.setSy { s.sy with
      tlpTxIn := feedChan false ls
      outPorts := List.replicate s.cfg.nPorts (feedChan true []) })
    match runSite .tls t with
    | .next t' =>
      let r := sendLanes n (if transfers t.sy.tlpTxIn then ls.tail else ls) t'
      let o := portChan t.sy.outPorts s.cfg.tlpPort
      ((if transfers o then [o.pay] else []) ++ r.1, r.2)
    | _ => ([], s)

/-- The TLP Receiver for `n` ticks: the words are offered on `tlr.in` in turn, `tlp_rx_out` is
always ready, and the lanes transferred on `tlp_rx_out` are collected. -/
def receiveLanes : Nat → List UpWord → State → List Lane × State
  | 0, _, s => ([], s)
  | n + 1, us, s =>
    let t := driveTlr (s.setSy { s.sy with
      inPorts := List.replicate s.cfg.nPorts (feedChan false us)
      tlpRxOut := feedChan true [] })
    match runSite .tlr t with
    | .next t' =>
      let i := portChan t.sy.inPorts s.cfg.tlpPort
      let r := receiveLanes n (if transfers i then us.tail else us) t'
      ((if transfers t.sy.tlpRxOut then [t.sy.tlpRxOut.pay] else []) ++ r.1, r.2)
    | _ => ([], s)

/-- A Link Packet: tag and payload; its length is the number of its words (R98, R113). -/
structure LinkPacket where
  dst     : Tag
  payload : List Word
  deriving DecidableEq, Repr

/-- The length field of a packet. -/
def LinkPacket.length (p : LinkPacket) : Word := BitVec.ofNat 32 p.payload.length

/-- The packet has at least one word and its length fits its field (R98). -/
def LinkPacket.wf (p : LinkPacket) : Prop := p.payload ≠ [] ∧ p.payload.length < 2 ^ 32

/-- The words of a packet on a `UP` channel, `last` on the final one only (R98). -/
def upWords (dst : Tag) (length : Word) : List Word → List UpWord
  | [] => []
  | [w] => [⟨w, true, dst, length⟩]
  | w :: ws => ⟨w, false, dst, length⟩ :: upWords dst length ws

/-- The packet on a `UP` channel. -/
def LinkPacket.words (p : LinkPacket) : List UpWord := upWords p.dst p.length p.payload

/-- `frame(P)` (R113): the header words and the payload words. -/
def LinkPacket.frame (p : LinkPacket) : List Word :=
  [preamble, p.dst.zeroExtend 32, p.length] ++ p.payload

/-- A TLP Record that survives the conversion (R278): every lane fully enabled but for a final lane
with `be = 0x0F`, whose disabled upper half is 0; `last` on the final lane only. -/
def wholeRecord : List Lane → Prop
  | [] => False
  | [l] => l.last = true ∧ (l.be = 0xFF ∨ (l.be = 0x0F ∧ upperHalf l.data = 0))
  | l :: ls => l.last = false ∧ l.be = 0xFF ∧ wholeRecord ls

/-- `last` is 1 on the final lane and on no other (R99). -/
def lastAtEnd : List Lane → Prop
  | [] => False
  | [l] => l.last = true
  | l :: ls => l.last = false ∧ lastAtEnd ls

/-- The words of a lane in their order: the lower half, and the upper half if it is enabled (R263,
R265). -/
def laneHalves (l : Lane) : List Word :=
  lowerHalf l.data :: if l.be.extractLsb' 4 4 = 0 then [] else [upperHalf l.data]

/-- The lanes that the words of a packet pair up to (R300). -/
def pairLanes : List Word → List Lane
  | [] => []
  | [w] => [⟨joinHalves 0 w, 0x0F, true⟩]
  | lo :: hi :: ws => ⟨joinHalves hi lo, 0xFF, ws.isEmpty⟩ :: pairLanes ws

/-- An operation on a cross-domain FIFO: a word offered to it, a word asked of it, a step of its
synchroniser. -/
inductive QueueOp where
  | offer (w : Word)
  | ask
  | sync (v f : Nat)
  deriving DecidableEq, Repr

/-- The FIFO, its capacity, and the name under which its operations know it. -/
def State.crossFifo (s : State) : CrossFifo → Afifo
  | .rxq => s.rxq
  | .txq => s.txq
def State.crossDepth (s : State) : CrossFifo → Nat
  | .rxq => s.cfg.rxqDepth
  | .txq => s.cfg.txqDepth
def crossFifoId : CrossFifo → FifoId
  | .rxq => .rxq
  | .txq => .txq

/-- The channel at the consumer's end of the FIFO (R312, R311). -/
def crossSource : CrossFifo → ChanId
  | .rxq => .dpkSink
  | .txq => .txqSource

/-- The word stands on the channel at the producer's end of the FIFO. -/
def State.offerTo (s : State) (w : Word) : CrossFifo → State
  | .rxq => s.setLk { s.lk with rxqSink := feedChan true [w] }
  | .txq => s.setSy { s.sy with pktSource := feedChan true [⟨w, false⟩] }

/-- A sequence of operations on a cross-domain FIFO: the words it accepted, the words it delivered,
and the state afterwards. A word is accepted where there is room and delivered where one is visible
(R133). -/
def queueRun (q : CrossFifo) : List QueueOp → State → List Word × List Word × State
  | [], s => ([], [], s)
  | .offer w :: ops, s =>
    if sinkReady (s.crossFifo q) (s.crossDepth q) then
      match exec (.fifoPush (crossFifoId q)) (s.offerTo w q) with
      | .next t => let r := queueRun q ops t; (w :: r.1, r.2.1, r.2.2)
      | _ => queueRun q ops s
    else queueRun q ops s
  | .ask :: ops, s =>
    if sourceValid (s.crossFifo q) then
      match exec (.fifoPop (crossFifoId q)) s with
      | .next t =>
        let r := queueRun q ops t
        (r.1, sourceData (s.crossFifo q) (crossSource q) s.now :: r.2.1, r.2.2)
      | _ => queueRun q ops s
    else queueRun q ops s
  | .sync v f :: ops, s =>
    match exec (.afifoSync q v f) s with
    | .next t => queueRun q ops t
    | _ => queueRun q ops s

end Sys2Proof.Machine
end

