-- ==== Sys2Proof/Certificates/Slice0/Obligations.lean ====
section
/-! DEFINITION. The statements about the link core that the provers are asked for. Each docstring
names the rules of spec/ that it formalises, or the log entry of a choice it rests on. -/

open Sys2Proof Sys2Proof.Machine

/-! ### Selecting and stepping -/

/-- R6, R11: a step executes the one operation that the word of the next site selects, and opens
the next event when no site is left (one operation a step is the model's choice: log entry 5). A
word that selects none is refused: R110 asks it for the unreachable control words; for every other
word that selects none it is the model's choice (log entry 18). -/
def Obligations.StepRunsSelectedOperation : Prop :=
  ∀ s : State,
    (s.agenda = [] → step s = openNext s) ∧
    (∀ site rest i, s.agenda = site :: rest → decode site (controlWord s site) = .ok i →
      step s = exec i { s with agenda := rest }) ∧
    (∀ site rest why, s.agenda = site :: rest → decode site (controlWord s site) = .error why →
      step s = .refused (.noOperation why))

/-- R91, R126, R130, R151, R178, R201, R237, R247, R271, R295: words written out from the patterns
of the operation map select the operations they stand for. -/
def Obligations.ExampleWordsDecode : Prop :=
  decode (.lp .w0) (.frame 0x5AA55AA5) = .ok .lpW0 ∧
  decode (.ch .mTx) (.bits [true, true]) = .ok (.chXfer .mTx) ∧
  decode (.fq .txq) (.bits [true, true]) = .ok (.fifoPushPop .txq) ∧
  decode .lbf (.bits [false, false, true, true, true]) = .ok .lbfRxTimeout ∧
  decode .pkt (.bits [false, true, false, true, false, true, true]) = .ok (.pktHdrW1 false true) ∧
  decode .dpk (.bits [false, true, false, false, true, true, false, true]) =
    .ok (.dpkHdrDst true false true) ∧
  decode .xd (.bits [true, false, true, false]) = .ok (.xdDropLast false) ∧
  decode .xa (.bits [true, true, true, true, true]) = .ok .xaEndSwitch ∧
  decode .tls (.bits [true, false, true, false, false, true, false, true]) =
    .ok (.tlsSendLowMore false true false) ∧
  decode .tlr (.bits [false, true, false, true]) = .ok (.tlrTakeLow true)

/-- Every operation whose don't-care bits spell no unreachable word is read back from the word that
its row of the operation map writes: no bit of an encoding is dropped. -/
def Obligations.DecodeOfEncode : Prop :=
  ∀ i : Instr, wellFormed i = true → decode (encode i).1 (encode i).2 = .ok i

/-- A word that selects an operation is that operation's encoding: two operations of one site never
share a word (R11, R100). -/
def Obligations.EncodeOfDecode : Prop :=
  ∀ (site : Site) (w : Raw) (i : Instr),
    decode site w = .ok i → wellFormed i = true ∧ encode i = (site, w)

/-- R11, R110: the patterns of a control word cover all its words but the unreachable ones, which
are refused. -/
def Obligations.PatternsCoverReachableWords : Prop :=
  ∀ (site : Site) (n : Nat) (b : List Bool),
    (site, n) ∈ [(Site.lbf, 5), (.pkt, 7), (.dpk, 8), (.xd, 4), (.xa, 5), (.tls, 8), (.tlr, 4)] →
    b.length = n →
    (unreachable site b = false → ∃ i, decode site (.bits b) = .ok i) ∧
    (unreachable site b = true → decode site (.bits b) = .error .unreachable)

/-- R11: in a state that keeps the invariants each component half selects exactly one operation,
and a well-formed one. -/
def Obligations.ExactlyOneOperationPerComponent : Prop :=
  ∀ s : State, Inv s → ∀ site ∈ componentSites,
    ∃ i, (selects s site = .ok i ∧ wellFormed i = true) ∧ ∀ j, selects s site = .ok j → j = i

/-! ### The operations, family by family

Each clause gives the operands of one rule, the operation they select, and the next state it leaves,
in full: whatever the state on the right does not name is unchanged. -/

/-- R91 to R95: what a word of a frame says by its position, and its effect. That the word is an
operation of its own, which writes `dpk.pm`, `dpk.dst_r`, `dpk.len_r` or the data of `dpk.source`
beside the Depacketizer's operation of the tick, is the model's choice (log entry 17). -/
def Obligations.FrameWordEffects : Prop :=
  ∀ (s : State) (w : Word), s.sy.dpkSink.pay = w →
    (selects s (.lp .w0) = .ok .lpW0 ↔ w = 0x5AA55AA5) ∧
    selects s (.lp .w1) = .ok (.lpW1 (w.extractLsb' 8 24) (w.extractLsb' 0 8)) ∧
    selects s (.lp .w2) = .ok (.lpW2 w) ∧
    selects s (.lp .payload) = .ok (.lpPayload w) ∧
    exec .lpW0 s = .next { s with sy := { s.sy with pm := true } } ∧
    (∀ reserved dst, exec (.lpW1 reserved dst) s =
      .next { s with dpk := { s.dpk with dstR := dst } }) ∧
    (∀ length, exec (.lpW2 length) s = .next { s with dpk := { s.dpk with lenR := length } }) ∧
    (∀ data, exec (.lpPayload data) s = .next { s with
      sy := { s.sy with dpkSource :=
        { s.sy.dpkSource with pay := { s.sy.dpkSource.pay with data := data } } } })

/-- R124 to R126: `{valid, ready}` selects the channel operation, which drives the transfer flag of
its channel and changes nothing else. That CH.XFER changes only the flag, and the operations at the
two ends of the channel do the rest of R126, is the model's choice (log entry 24). -/
def Obligations.ChannelOperations : Prop :=
  ∀ (s : State) (c : ChanId),
    (∀ r, s.handshakeOf c = (false, r) → selects s (.ch c) = .ok (.chIdle c r) ∧
      ∃ t, exec (.chIdle c r) s = .next t ∧ t.xferOf c = false ∧ OnlyXferOf c s t) ∧
    (s.handshakeOf c = (true, false) → selects s (.ch c) = .ok (.chStall c) ∧
      ∃ t, exec (.chStall c) s = .next t ∧ t.xferOf c = false ∧ OnlyXferOf c s t) ∧
    (s.handshakeOf c = (true, true) → selects s (.ch c) = .ok (.chXfer c) ∧
      ∃ t, exec (.chXfer c) s = .next t ∧ t.xferOf c = true ∧ OnlyXferOf c s t)

/-- R109, R127 to R130, R133 on the cross-domain FIFOs. On `rxq` the link pushes and the
Depacketizer pops; on `txq` the Packetizer pushes (without `last`, R313) and the link pops. R109
selects by the transfers alone; that the control word also asks for room and for a visible word is
the model's choice (log entry 16). -/
def Obligations.CrossFifoOperations : Prop :=
  (∀ s : State,
    let q := s.rxq
    let push := s.lk.rxqSink.xfer && decide (q.items.length + q.freed < s.cfg.rxqDepth)
    let pop := s.sy.dpkSink.xfer && decide (0 < q.vis)
    let e := s.lk.rxqSink.pay
    (push = false → pop = false → selects s (.fq .rxq) = .ok (.fifoNop .rxq) ∧
      exec (.fifoNop .rxq) s = .next s) ∧
    (push = true → pop = false → selects s (.fq .rxq) = .ok (.fifoPush .rxq) ∧
      exec (.fifoPush .rxq) s = .next { s with rxq := ⟨q.items ++ [e], q.vis, q.freed⟩ }) ∧
    (push = false → pop = true → selects s (.fq .rxq) = .ok (.fifoPop .rxq) ∧
      exec (.fifoPop .rxq) s = .next { s with rxq := ⟨q.items.tail, q.vis - 1, q.freed + 1⟩ }) ∧
    (push = true → pop = true → selects s (.fq .rxq) = .ok (.fifoPushPop .rxq) ∧
      exec (.fifoPushPop .rxq) s =
        .next { s with rxq := ⟨q.items.tail ++ [e], q.vis - 1, q.freed + 1⟩ })) ∧
  (∀ s : State,
    let q := s.txq
    let push := s.sy.pktSource.xfer && decide (q.items.length + q.freed < s.cfg.txqDepth)
    let pop := s.lk.txqSource.xfer && decide (0 < q.vis)
    let e := s.sy.pktSource.pay.data
    (push = false → pop = false → selects s (.fq .txq) = .ok (.fifoNop .txq) ∧
      exec (.fifoNop .txq) s = .next s) ∧
    (push = true → pop = false → selects s (.fq .txq) = .ok (.fifoPush .txq) ∧
      exec (.fifoPush .txq) s = .next { s with txq := ⟨q.items ++ [e], q.vis, q.freed⟩ }) ∧
    (push = false → pop = true → selects s (.fq .txq) = .ok (.fifoPop .txq) ∧
      exec (.fifoPop .txq) s = .next { s with txq := ⟨q.items.tail, q.vis - 1, q.freed + 1⟩ }) ∧
    (push = true → pop = true → selects s (.fq .txq) = .ok (.fifoPushPop .txq) ∧
      exec (.fifoPushPop .txq) s =
        .next { s with txq := ⟨q.items.tail ++ [e], q.vis - 1, q.freed + 1⟩ }))

/-- R127 to R130 on `tls.q`, whose entry is the lane without its `last` (R42). No tick executes
these rows: the TLP Sender's operations push and pop `tls.q` themselves (the model's choice: log
entry 16). -/
def Obligations.LaneFifoOperations : Prop :=
  ∀ s : State,
    let q := s.tls.q
    let e : LaneEntry := ⟨s.sy.tlpTxIn.pay.data, s.sy.tlpTxIn.pay.be⟩
    exec (.fifoNop .tlsq) s = .next s ∧
    exec (.fifoPush .tlsq) s = .next { s with tls := { s.tls with q := q ++ [e] } } ∧
    exec (.fifoPop .tlsq) s = .next { s with tls := { s.tls with q := q.tail } } ∧
    exec (.fifoPushPop .tlsq) s = .next { s with tls := { s.tls with q := q.tail ++ [e] } }

/-- R131: a synchroniser step to any `v` and `f` in their ranges sets `vis` and `freed` and changes
nothing else. -/
def Obligations.SynchroniserStep : Prop :=
  ∀ (s : State) (v f : Nat),
    (s.rxq.vis ≤ v → v ≤ s.rxq.items.length → f ≤ s.rxq.freed →
      selects s (.sync .rxq v f) = .ok (.afifoSync .rxq v f) ∧
      exec (.afifoSync .rxq v f) s = .next { s with rxq := ⟨s.rxq.items, v, f⟩ }) ∧
    (s.txq.vis ≤ v → v ≤ s.txq.items.length → f ≤ s.txq.freed →
      selects s (.sync .txq v f) = .ok (.afifoSync .txq v f) ∧
      exec (.afifoSync .txq v f) s = .next { s with txq := ⟨s.txq.items, v, f⟩ })

/-- The model's choice (log entry 14): a synchroniser step asked for values outside the ranges of
R131 answers with values inside them, so the ghost counters stay in their ranges whatever is asked.
-/
def Obligations.SynchroniserStaysInRange : Prop :=
  ∀ (s t : State) (v f : Nat),
    (exec (.afifoSync .rxq v f) s = .next t → s.rxq.wf s.cfg.rxqDepth = true →
      t.rxq.wf t.cfg.rxqDepth = true ∧ t.rxq.items = s.rxq.items ∧ s.rxq.vis ≤ t.rxq.vis ∧
      t.rxq.freed ≤ s.rxq.freed) ∧
    (exec (.afifoSync .txq v f) s = .next t → s.txq.wf s.cfg.txqDepth = true →
      t.txq.wf t.cfg.txqDepth = true ∧ t.txq.items = s.txq.items ∧ s.txq.vis ≤ t.txq.vis ∧
      t.txq.freed ≤ s.txq.freed)

/-- R144, R146, R148 to R157: the operations of the Link-Bus FSM. `go st` is the state after a tick
whose next `lbf.st` is `st`; a word moves on the link channels exactly in the window of its
direction. -/
def Obligations.LinkBusOperations : Prop :=
  ∀ s : State,
    let wt := s.lk.txqSource.valid && s.lk.linkTx.ready
    let wr := s.lk.linkRx.valid && s.lk.rxqSink.ready
    let rm := s.cfg.tRx != 0 && s.lbf.rxTime == 0
    let tm := s.cfg.tTx != 0 && s.lbf.txTime == 0
    let w := lbfWires s s.lk
    let go (st : LbfSt) : State := { s with
      lk := w
      lbf := {
        st := st
        rxTime := if s.cfg.tRx = 0 then s.lbf.rxTime
          else if s.lbf.st = .receive then s.lbf.rxTime - 1 else s.cfg.tRx - 1
        txTime := if s.cfg.tTx = 0 then s.lbf.txTime
          else if s.lbf.st = .transmit then s.lbf.txTime - 1 else s.cfg.tTx - 1 } }
    (w.linkRx.ready = (s.lbf.st == .receive && s.lk.rxqSink.ready) ∧
      w.rxqSink.valid = (s.lbf.st == .receive && s.lk.linkRx.valid) ∧
      w.linkTx.valid = (s.lbf.st == .transmit && s.lk.txqSource.valid) ∧
      w.txqSource.ready = (s.lbf.st == .transmit && s.lk.linkTx.ready) ∧
      transfers w.linkRx = (s.lbf.st == .receive && wr) ∧
      transfers w.rxqSink = (s.lbf.st == .receive && wr) ∧ w.rxqSink.pay = s.lk.linkRx.pay ∧
      transfers w.linkTx = (s.lbf.st == .transmit && wt) ∧
      transfers w.txqSource = (s.lbf.st == .transmit && wt) ∧
      w.linkTx.pay = s.lk.txqSource.pay ∧
      w.rxWindow = (s.lbf.st == .receive) ∧ w.txWindow = (s.lbf.st == .transmit)) ∧
    (s.lbf.st = .receive → wt = false →
      selects s .lbf = .ok (.lbfRxStayNotx wr rm) ∧
      ∀ r t, exec (.lbfRxStayNotx r t) s = .next (go .receive)) ∧
    (s.lbf.st = .receive → wt = true → wr = true → rm = false →
      selects s .lbf = .ok .lbfRxStayBusy ∧ exec .lbfRxStayBusy s = .next (go .receive)) ∧
    (s.lbf.st = .receive → wt = true → wr = false →
      selects s .lbf = .ok (.lbfRxYield rm) ∧
      ∀ t, exec (.lbfRxYield t) s = .next (go .receiveToTransmit)) ∧
    (s.lbf.st = .receive → wt = true → wr = true → rm = true →
      selects s .lbf = .ok .lbfRxTimeout ∧
      exec .lbfRxTimeout s = .next (go .receiveToTransmit)) ∧
    (s.lbf.st = .receiveToTransmit →
      (∃ b, selects s .lbf = .ok (.lbfR2t wt wr b)) ∧
      ∀ x r t, exec (.lbfR2t x r t) s = .next (go .transmit)) ∧
    (s.lbf.st = .transmit → wr = false →
      selects s .lbf = .ok (.lbfTxStayNorx wt tm) ∧
      ∀ x t, exec (.lbfTxStayNorx x t) s = .next (go .transmit)) ∧
    (s.lbf.st = .transmit → wr = true → wt = true → tm = false →
      selects s .lbf = .ok .lbfTxStayBusy ∧ exec .lbfTxStayBusy s = .next (go .transmit)) ∧
    (s.lbf.st = .transmit → wr = true → wt = false →
      selects s .lbf = .ok (.lbfTxYield tm) ∧
      ∀ t, exec (.lbfTxYield t) s = .next (go .transmitToReceive)) ∧
    (s.lbf.st = .transmit → wr = true → wt = true → tm = true →
      selects s .lbf = .ok .lbfTxTimeout ∧
      exec .lbfTxTimeout s = .next (go .transmitToReceive)) ∧
    (s.lbf.st = .transmitToReceive →
      (∃ b, selects s .lbf = .ok (.lbfT2r wt wr b)) ∧
      ∀ x r t, exec (.lbfT2r x r t) s = .next (go .receive))

/-- R171, R173 to R183: the operations of the Packetizer and the word each offers on `pkt.source`.
-/
def Obligations.PacketizerOperations : Prop :=
  ∀ s : State,
    let sink := s.sy.mTx
    let l := sink.pay.last
    let dr := s.sy.pktSource.ready
    let w := pktAccept s (pktOffer s s.sy)
    let go (p : Pkt) : State := { s with sy := w, pkt := p }
    let header (data : Word) : Prop :=
      w.pktSource.valid = true ∧ w.pktSource.pay = ⟨data, false⟩ ∧ w.mTx.ready = false
    (s.pkt = ⟨.idle, 0⟩ → sink.valid = false →
      selects s .pkt = .ok (.pktIdleWait false false l dr) ∧
      w.pktSource.valid = false ∧ w.mTx.ready = false ∧
      ∀ h1 h0 a b, exec (.pktIdleWait h1 h0 a b) s = .next (go ⟨.idle, 0⟩)) ∧
    (s.pkt = ⟨.idle, 0⟩ → sink.valid = true →
      selects s .pkt = .ok (.pktStart false false l dr) ∧
      w.pktSource.valid = false ∧ w.mTx.ready = false ∧
      ∀ h1 h0 a b, exec (.pktStart h1 h0 a b) s = .next (go ⟨.insertHeader, 0⟩)) ∧
    (s.pkt.st = .insertHeader → dr = false →
      (∃ h1 h0, selects s .pkt = .ok (.pktHdrStall h1 h0 sink.valid l)) ∧
      header (if s.pkt.hidx = 0 then 0x5AA55AA5
        else if s.pkt.hidx = 1 then sink.pay.dst.zeroExtend 32 else sink.pay.length) ∧
      ∀ h1 h0 a b, exec (.pktHdrStall h1 h0 a b) s = .next (go s.pkt)) ∧
    (s.pkt = ⟨.insertHeader, 0⟩ → dr = true →
      selects s .pkt = .ok (.pktHdrW0 sink.valid l) ∧ header 0x5AA55AA5 ∧
      ∀ a b, exec (.pktHdrW0 a b) s = .next (go ⟨.insertHeader, 1⟩)) ∧
    (s.pkt = ⟨.insertHeader, 1⟩ → dr = true →
      selects s .pkt = .ok (.pktHdrW1 sink.valid l) ∧ header (sink.pay.dst.zeroExtend 32) ∧
      ∀ a b, exec (.pktHdrW1 a b) s = .next (go ⟨.insertHeader, 2⟩)) ∧
    (s.pkt = ⟨.insertHeader, 2⟩ → dr = true →
      selects s .pkt = .ok (.pktHdrW2 sink.valid l) ∧ header sink.pay.length ∧
      ∀ a b, exec (.pktHdrW2 a b) s = .next (go ⟨.copy, 0⟩)) ∧
    (s.pkt = ⟨.copy, 0⟩ → sink.valid = false →
      selects s .pkt = .ok (.pktCopyIdle false false l dr) ∧ w.pktSource.valid = false ∧
      ∀ h1 h0 a b, exec (.pktCopyIdle h1 h0 a b) s = .next (go s.pkt)) ∧
    (s.pkt = ⟨.copy, 0⟩ → sink.valid = true → dr = false →
      selects s .pkt = .ok (.pktCopyStall false false l) ∧ w.pktSource.valid = true ∧
      w.pktSource.pay = ⟨sink.pay.data, l⟩ ∧ w.mTx.ready = false ∧
      ∀ h1 h0 a, exec (.pktCopyStall h1 h0 a) s = .next (go s.pkt)) ∧
    (s.pkt = ⟨.copy, 0⟩ → sink.valid = true → l = false → dr = true →
      selects s .pkt = .ok (.pktCopyXfer false false) ∧ w.pktSource.valid = true ∧
      w.pktSource.pay = ⟨sink.pay.data, false⟩ ∧ w.mTx.ready = true ∧
      ∀ h1 h0, exec (.pktCopyXfer h1 h0) s = .next (go ⟨.copy, 0⟩)) ∧
    (s.pkt = ⟨.copy, 0⟩ → sink.valid = true → l = true → dr = true →
      selects s .pkt = .ok (.pktCopyLast false false) ∧ w.pktSource.valid = true ∧
      w.pktSource.pay = ⟨sink.pay.data, true⟩ ∧ w.mTx.ready = true ∧
      ∀ h1 h0, exec (.pktCopyLast h1 h0) s = .next (go ⟨.idle, 0⟩))

/-- R193, R195 to R199: the Depacketizer in `IDLE`. The timer is loaded and the word count cleared;
a word is always taken, and only the preamble is not garbage. -/
def Obligations.DepacketizerIdleOperations : Prop :=
  ∀ s : State, s.dpk.st = .idle → s.sy.pm = (s.sy.dpkSink.pay == 0x5AA55AA5) →
    let w := dpkAccept s (dpkOffer s s.sy)
    let h := s.dpk.hcnt
    let l := decide (s.dpk.cnt = (if s.dpk.lenR = 0 then 1 else s.dpk.lenR) - 1)
    let r := s.sy.dpkSource.ready
    let d : Dpk := { s.dpk with timer := s.cfg.depackTimeout - 1, cnt := 0 }
    (w.dpkSink.ready = true ∧ w.dpkSource.valid = false ∧ w.abortEvt = false) ∧
    (s.sy.dpkSink.valid = false →
      selects s .dpk = .ok (.dpkIdleWait false h s.sy.pm l r) ∧
      ∀ t a p b c, exec (.dpkIdleWait t a p b c) s = .next { s with sy := w, dpk := d }) ∧
    (s.sy.dpkSink.valid = true → s.sy.dpkSink.pay ≠ 0x5AA55AA5 →
      selects s .dpk = .ok (.dpkIdleDrop false h l r) ∧
      ∀ t a b c, exec (.dpkIdleDrop t a b c) s = .next { s with sy := w, dpk := d }) ∧
    (s.sy.dpkSink.valid = true → s.sy.dpkSink.pay = 0x5AA55AA5 →
      selects s .dpk = .ok (.dpkIdleSync false h l r) ∧
      ∀ t a b c, exec (.dpkIdleSync t a b c) s =
        .next { s with sy := w, dpk := { d with st := .receiveHeader, hcnt := false } })

/-- R193, R195, R196, R200 to R203: the Depacketizer in `RECEIVE_HEADER`. The abort wins over a
word that is offered, takes none, and is counted modulo 2^32. -/
def Obligations.DepacketizerHeaderOperations : Prop :=
  ∀ s : State, s.dpk.st = .receiveHeader →
    let w := dpkAccept s (dpkOffer s s.sy)
    let v := s.sy.dpkSink.valid
    let p := s.sy.pm
    let l := decide (s.dpk.cnt = (if s.dpk.lenR = 0 then 1 else s.dpk.lenR) - 1)
    let r := s.sy.dpkSource.ready
    let d : Dpk := { s.dpk with
      timer := if s.cfg.depackTimerRestartOnWord && s.sy.dpkSink.xfer then s.cfg.depackTimeout - 1
        else s.dpk.timer - 1 }
    (w.dpkSource.valid = false ∧ w.dpkSink.ready = !(s.dpk.timer == 0) ∧
      w.abortEvt = (s.dpk.timer == 0)) ∧
    (s.dpk.timer ≠ 0 → v = false →
      selects s .dpk = .ok (.dpkHdrWait s.dpk.hcnt p l r) ∧
      ∀ a b c e, exec (.dpkHdrWait a b c e) s = .next { s with sy := w, dpk := d }) ∧
    (s.dpk.timer ≠ 0 → v = true → s.dpk.hcnt = false →
      selects s .dpk = .ok (.dpkHdrDst p l r) ∧
      ∀ a b c, exec (.dpkHdrDst a b c) s = .next { s with
        sy := w, dpk := { d with dstR := s.sy.dpkSink.pay.extractLsb' 0 8, hcnt := true } }) ∧
    (s.dpk.timer ≠ 0 → v = true → s.dpk.hcnt = true →
      selects s .dpk = .ok (.dpkHdrLen p l r) ∧
      ∀ a b c, exec (.dpkHdrLen a b c) s = .next { s with
        sy := w, dpk := { d with lenR := s.sy.dpkSink.pay, hcnt := false, st := .copy } }) ∧
    (s.dpk.timer = 0 →
      selects s .dpk = .ok (.dpkHdrAbort s.dpk.hcnt v p l r) ∧
      ∀ a b c e f, exec (.dpkHdrAbort a b c e f) s = .next { s with
        sy := { w with abortEvt := true }
        dpk := { d with st := .idle, hcnt := false, abortCount := s.dpk.abortCount + 1 } })

/-- R193 to R196, R204 to R208: the Depacketizer in `COPY`. It is a wire for the data and adds the
packet parameters and `last`; in the abort tick no word moves. -/
def Obligations.DepacketizerCopyOperations : Prop :=
  ∀ s : State, s.dpk.st = .copy →
    let w := dpkAccept s (dpkOffer s s.sy)
    let v := s.sy.dpkSink.valid
    let p := s.sy.pm
    let h := s.dpk.hcnt
    let efflen : Word := if s.dpk.lenR = 0 then 1 else s.dpk.lenR
    let l := decide (s.dpk.cnt = efflen - 1)
    let r := s.sy.dpkSource.ready
    let d : Dpk := { s.dpk with
      timer := if s.cfg.depackTimerRestartOnWord && s.sy.dpkSink.xfer then s.cfg.depackTimeout - 1
        else s.dpk.timer - 1 }
    (s.dpk.timer ≠ 0 → w.dpkSource.valid = v ∧ w.dpkSink.ready = r ∧ w.abortEvt = false ∧
      w.dpkSource.pay = ⟨s.sy.dpkSink.pay, l, s.dpk.dstR, efflen⟩) ∧
    (s.dpk.timer ≠ 0 → v = false →
      selects s .dpk = .ok (.dpkCopyWait h p l r) ∧
      ∀ a b c e, exec (.dpkCopyWait a b c e) s = .next { s with sy := w, dpk := d }) ∧
    (s.dpk.timer ≠ 0 → v = true → r = false →
      selects s .dpk = .ok (.dpkCopyStall h p l) ∧
      ∀ a b c, exec (.dpkCopyStall a b c) s = .next { s with sy := w, dpk := d }) ∧
    (s.dpk.timer ≠ 0 → v = true → l = false → r = true →
      selects s .dpk = .ok (.dpkCopyXfer h p) ∧
      ∀ a b, exec (.dpkCopyXfer a b) s = .next { s with
        sy := w, dpk := { d with cnt := s.dpk.cnt + 1 } }) ∧
    (s.dpk.timer ≠ 0 → v = true → l = true → r = true →
      selects s .dpk = .ok (.dpkCopyLast h p) ∧
      ∀ a b, exec (.dpkCopyLast a b) s = .next { s with
        sy := w, dpk := { d with st := .idle } }) ∧
    (s.dpk.timer = 0 →
      w.dpkSource.valid = false ∧ w.dpkSink.ready = false ∧
      selects s .dpk = .ok (.dpkCopyAbort h v p l r) ∧
      ∀ a b c e f, exec (.dpkCopyAbort a b c e f) s = .next { s with
        sy := { w with abortEvt := true }
        dpk := { d with st := .idle, hcnt := false, abortCount := s.dpk.abortCount + 1 } })

/-- R231 to R237: the dispatch half, the tags being unique and every port having its channel. `w`
are the wires it leaves: each `in[k]` carries the word of `m_rx`, and only `in` channels,
`m_rx.ready` and the event are driven. Only the last word of an unrouted packet changes a register,
the count of such packets, modulo 2^32. -/
def Obligations.DispatchOperations : Prop :=
  ∀ s : State, s.cfg.tags.Nodup → s.sy.inPorts.length = s.cfg.nPorts →
    let w := xdAccept s (xdOffer s s.sy)
    let m := s.sy.dpkSource
    let l := m.pay.last
    let go : State := { s with sy := w }
    (w = { s.sy with
        dpkSource := { m with ready := w.dpkSource.ready }
        inPorts := w.inPorts
        unroutedEvt := w.unroutedEvt } ∧
      w.inPorts.length = s.cfg.nPorts ∧
      ∀ k, k < s.cfg.nPorts → (portChan w.inPorts k).pay = m.pay ∧
        (portChan w.inPorts k).ready = (portChan s.sy.inPorts k).ready) ∧
    (m.valid = false →
      (∃ h r, selects s .xd = .ok (.xdIdle h l r)) ∧
      (∀ k, (portChan w.inPorts k).valid = false) ∧ w.unroutedEvt = false ∧
      ∀ h a r, exec (.xdIdle h a r) s = .next go) ∧
    (∀ j, m.valid = true → s.cfg.tags[j]? = some m.pay.dst →
      (portChan w.inPorts j).valid = true ∧
      (∀ k, k ≠ j → (portChan w.inPorts k).valid = false) ∧
      w.dpkSource.ready = (portChan s.sy.inPorts j).ready ∧ w.unroutedEvt = false ∧
      ((portChan s.sy.inPorts j).ready = false →
        selects s .xd = .ok (.xdRouteStall l) ∧ transfers w.dpkSource = false ∧
        ∀ a, exec (.xdRouteStall a) s = .next go) ∧
      ((portChan s.sy.inPorts j).ready = true →
        selects s .xd = .ok (.xdRouteXfer l) ∧ transfers w.dpkSource = true ∧
        transfers (portChan w.inPorts j) = true ∧
        ∀ a, exec (.xdRouteXfer a) s = .next go)) ∧
    (m.valid = true → m.pay.dst ∉ s.cfg.tags →
      (∀ k, (portChan w.inPorts k).valid = false) ∧ w.dpkSource.ready = true ∧
      transfers w.dpkSource = true ∧ w.unroutedEvt = l ∧
      (l = false →
        (∃ r, selects s .xd = .ok (.xdDropWord r)) ∧
        ∀ r, exec (.xdDropWord r) s = .next go) ∧
      (l = true →
        (∃ r, selects s .xd = .ok (.xdDropLast r)) ∧
        ∀ r, exec (.xdDropLast r) s = .next { s with
          sy := { w with unroutedEvt := true }
          xbar := { s.xbar with unroutedCount := s.xbar.unroutedCount + 1 } }))

/-- R238, R239, R241 to R247: the arbiter half. `req` and `other` are the requests of R239, `w` the
wires it leaves: the granted port is wired through to `m_tx`, every other port is held off, and
nothing else is driven. -/
def Obligations.ArbiterOperations : Prop :=
  ∀ s : State,
    let w := xaAccept s (xaOffer s s.sy)
    let g := portChan s.sy.outPorts s.xbar.grant
    let o := portChan w.outPorts s.xbar.grant
    let l := g.pay.last
    let r := s.sy.mTx.ready
    let req := g.valid || s.xbar.locked
    let other := (List.range s.cfg.nPorts).any fun j =>
      j != s.xbar.grant && (portChan s.sy.outPorts j).valid
    let moved := nextGrant s s.xbar.grant
    let go (x : Xbar) : State := { s with sy := w, xbar := x }
    let moves : Prop := transfers o = true ∧ transfers w.mTx = true ∧ w.mTx.pay = g.pay
    (w = { s.sy with mTx := w.mTx, outPorts := w.outPorts } ∧
      w.mTx.valid = g.valid ∧ w.mTx.ready = r ∧ w.mTx.xfer = s.sy.mTx.xfer ∧
      (s.xbar.grant < s.sy.outPorts.length → w.mTx.pay = g.pay ∧ o.ready = r) ∧
      w.outPorts.length = s.sy.outPorts.length ∧
      (∀ k, k ≠ s.xbar.grant → (portChan w.outPorts k).ready = false) ∧
      ∀ k, portChan w.outPorts k =
        { portChan s.sy.outPorts k with ready := (portChan w.outPorts k).ready }) ∧
    (req = false → other = false →
      selects s .xa = .ok (.xaPark l r) ∧ w.mTx.valid = false ∧
      ∀ a b, exec (.xaPark a b) s = .next (go s.xbar)) ∧
    (req = false → other = true →
      selects s .xa = .ok (.xaSwitchIdle l r) ∧ w.mTx.valid = false ∧
      ∀ a b, exec (.xaSwitchIdle a b) s = .next (go { s.xbar with grant := moved })) ∧
    (s.xbar.locked = true → g.valid = false →
      selects s .xa = .ok (.xaWait l r other) ∧ w.mTx.valid = false ∧
      ∀ a b c, exec (.xaWait a b c) s = .next (go s.xbar)) ∧
    (g.valid = true → r = false →
      selects s .xa = .ok (.xaStall l other) ∧ w.mTx.valid = true ∧ w.mTx.pay = g.pay ∧
      o.ready = false ∧
      ∀ a b, exec (.xaStall a b) s = .next (go s.xbar)) ∧
    (g.valid = true → l = false → r = true →
      selects s .xa = .ok (.xaXfer other) ∧ moves ∧
      ∀ a, exec (.xaXfer a) s = .next (go { s.xbar with locked := true })) ∧
    (g.valid = true → l = true → r = true → other = false →
      selects s .xa = .ok .xaEndPark ∧ moves ∧
      exec .xaEndPark s = .next (go { s.xbar with locked := false })) ∧
    (g.valid = true → l = true → r = true → other = true →
      selects s .xa = .ok .xaEndSwitch ∧ moves ∧
      exec .xaEndSwitch s = .next (go { s.xbar with locked := false, grant := moved }))

/-- R263, R264, R266 to R269: the TLP Sender in `FILL`. -/
def Obligations.SenderFillOperations : Prop :=
  ∀ s : State, s.tls.st = .fill →
    let w := tlsAccept s (tlsOffer s s.sy)
    let c := s.sy.tlpTxIn
    let l := c.pay.last
    let full := s.tls.q.length + 1 == s.cfg.tlpTxqDepth
    let h := s.tls.half
    let u := headHasUpper s
    let x := tlsLastWord s
    let r := (portChan s.sy.outPorts s.cfg.tlpPort).ready
    let q := s.tls.q ++ [⟨c.pay.data, c.pay.be⟩]
    let n := s.tls.wcount + if c.pay.be.extractLsb' 4 4 = 0 then 1 else 2
    w.tlpTxIn.ready = true ∧
    (c.valid = false →
      selects s .tls = .ok (.tlsFillWait l full h u x r) ∧
      ∀ a b d e f g, exec (.tlsFillWait a b d e f g) s = .next { s with sy := w }) ∧
    (c.valid = true → l = false → full = false →
      selects s .tls = .ok (.tlsFillPush h u x r) ∧
      ∀ a b d e, exec (.tlsFillPush a b d e) s =
        .next { s with sy := w, tls := { s.tls with q := q, wcount := n } }) ∧
    (c.valid = true → l = true →
      selects s .tls = .ok (.tlsFillCloseLast full h u x r) ∧
      ∀ a b d e f, exec (.tlsFillCloseLast a b d e f) s =
        .next { s with sy := w, tls := ⟨.send, q, n, 0, false⟩ }) ∧
    (c.valid = true → l = false → full = true →
      selects s .tls = .ok (.tlsFillCloseFull h u x r) ∧
      ∀ a b d e, exec (.tlsFillCloseFull a b d e) s =
        .next { s with sy := w, tls := ⟨.send, q, n, 0, false⟩ })

/-- R263, R264, R270 to R274: the TLP Sender in `SEND` under the invariants of R276, with the lane
`hd` at the head of `tls.q`. The word it offers stands on `tls.out`, its length left out where 32
bits cannot hold it (log entry 22). That the lower half of a two-word lane is never the last word
is R275 (the spec's own inference). -/
def Obligations.SenderSendOperations : Prop :=
  ∀ (s : State) (hd : LaneEntry) (rest : List LaneEntry),
    s.tls.st = .send → s.tls.q = hd :: rest → TlsInv s.cfg.tlpTxqDepth s.tls →
    s.cfg.tlpPort < s.sy.outPorts.length →
    let w := tlsAccept s (tlsOffer s s.sy)
    let out := portChan w.outPorts s.cfg.tlpPort
    let v := s.sy.tlpTxIn.valid
    let l := s.sy.tlpTxIn.pay.last
    let f := s.tls.q.length + 1 == s.cfg.tlpTxqDepth
    let h := s.tls.half
    let u := hd.be.extractLsb' 4 4 != 0
    let x := s.tls.sent == s.tls.wcount - 1
    let r := (portChan s.sy.outPorts s.cfg.tlpPort).ready
    (w.tlpTxIn.ready = false ∧ out.valid = true ∧
      out.pay.data = (if h then hd.data.extractLsb' 32 32 else hd.data.extractLsb' 0 32) ∧
      out.pay.last = x ∧ out.pay.dst = s.cfg.tlpTag ∧
      (s.tls.wcount < 2 ^ 32 → out.pay.length = BitVec.ofNat 32 s.tls.wcount)) ∧
    (h = false → u = true → x = false) ∧
    (r = false →
      selects s .tls = .ok (.tlsSendStall v l f h u x) ∧
      ∀ a b c d e g, exec (.tlsSendStall a b c d e g) s = .next { s with sy := w }) ∧
    (h = false → u = true → x = false → r = true →
      selects s .tls = .ok (.tlsSendLowMore v l f) ∧
      ∀ a b c, exec (.tlsSendLowMore a b c) s = .next { s with
        sy := w, tls := { s.tls with sent := s.tls.sent + 1, half := true } }) ∧
    (h = false → u = false → x = false → r = true →
      selects s .tls = .ok (.tlsSendLowPop v l f) ∧
      ∀ a b c, exec (.tlsSendLowPop a b c) s = .next { s with
        sy := w, tls := { s.tls with q := rest, sent := s.tls.sent + 1 } }) ∧
    (h = true → x = false → r = true →
      selects s .tls = .ok (.tlsSendHighPop v l f u) ∧
      ∀ a b c d, exec (.tlsSendHighPop a b c d) s = .next { s with
        sy := w, tls := { s.tls with q := rest, sent := s.tls.sent + 1, half := false } }) ∧
    (x = true → r = true →
      selects s .tls = .ok (.tlsSendLast v l f h u) ∧ rest = [] ∧
      ∀ a b c d e, exec (.tlsSendLast a b c d e) s = .next { s with
        sy := w, tls := ⟨.fill, [], 0, 0, false⟩ })

/-- R292, R294 to R299: the TLP Receiver, and the lane each operation offers on `tlp_rx_out`. -/
def Obligations.ReceiverOperations : Prop :=
  ∀ s : State,
    let w := tlrAccept s (tlrOffer s s.sy)
    let i := portChan s.sy.inPorts s.cfg.tlpPort
    let l := i.pay.last
    let r := s.sy.tlpRxOut.ready
    let go (t : Tlr) : State := { s with sy := w, tlr := t }
    (i.valid = false →
      selects s .tlr = .ok (.tlrIdle s.tlr.haveLow l r) ∧ w.tlpRxOut.valid = false ∧
      ∀ a b c, exec (.tlrIdle a b c) s = .next (go s.tlr)) ∧
    (s.tlr.haveLow = false → i.valid = true → l = false →
      selects s .tlr = .ok (.tlrTakeLow r) ∧ w.tlpRxOut.valid = false ∧
      (portChan w.inPorts s.cfg.tlpPort).ready = true ∧
      ∀ a, exec (.tlrTakeLow a) s = .next (go ⟨i.pay.data, true⟩)) ∧
    (s.tlr.haveLow = false → i.valid = true → l = true → r = false →
      selects s .tlr = .ok .tlrSingleStall ∧ w.tlpRxOut.valid = true ∧
      (portChan w.inPorts s.cfg.tlpPort).ready = false ∧
      exec .tlrSingleStall s = .next (go s.tlr)) ∧
    (s.tlr.haveLow = false → i.valid = true → l = true → r = true →
      selects s .tlr = .ok .tlrSingleEmit ∧ w.tlpRxOut.valid = true ∧
      w.tlpRxOut.pay = ⟨(0 : Word) ++ i.pay.data, 0x0F, true⟩ ∧
      (portChan w.inPorts s.cfg.tlpPort).ready = true ∧
      exec .tlrSingleEmit s = .next (go { s.tlr with haveLow := false })) ∧
    (s.tlr.haveLow = true → i.valid = true → r = false →
      selects s .tlr = .ok (.tlrPairStall l) ∧ w.tlpRxOut.valid = true ∧
      (portChan w.inPorts s.cfg.tlpPort).ready = false ∧
      ∀ a, exec (.tlrPairStall a) s = .next (go s.tlr)) ∧
    (s.tlr.haveLow = true → i.valid = true → r = true →
      selects s .tlr = .ok (.tlrPairEmit l) ∧ w.tlpRxOut.valid = true ∧
      w.tlpRxOut.pay = ⟨i.pay.data ++ s.tlr.low, 0xFF, l⟩ ∧
      (portChan w.inPorts s.cfg.tlpPort).ready = true ∧
      ∀ a, exec (.tlrPairEmit a) s = .next (go { s.tlr with haveLow := false }))

/-- R318: the link domain to its reset state, and no word moves on a link channel; `rxq` and `txq`
are emptied only if the system domain's reset is asserted as well, which the flag `sysHeld` says
(the model's reading of R319: log entry 11). R318 names the outputs of the link domain alone; that
the signals of the environment and of the FIFOs in `lk` (`link_rx.valid`, `link_tx.ready`,
`rxq.sink.ready`, `txq.source.valid`) are off too is the model's choice (log entry 23). -/
def Obligations.ResetLinkOperation : Prop :=
  ∀ s : State,
    (s.lk.rst = true → selects s .rstLink = .ok .resetLink) ∧
    exec .resetLink s = .next { s with
      lk := { LinkWires.off with rst := true }
      lbf := ⟨.receive, s.cfg.tRx - 1, s.cfg.tTx - 1⟩
      rxq := if s.sysHeld then ⟨[], 0, 0⟩ else s.rxq
      txq := if s.sysHeld then ⟨[], 0, 0⟩ else s.txq }

/-- R319: the system domain to its reset state, `tls.q` flushed, both counters cleared, no event
raised; `rxq` and `txq` are emptied only if the link domain's reset is asserted as well, which the
flag `linkHeld` says (the model's reading of R319: log entry 11). R319 names what the components of the
system domain drive; that the environment's offers and readiness and the FIFOs' signals in `sy`
(`out[i].valid`, `in[i].ready`, `tlp_tx_in.valid`, `tlp_rx_out.ready`, `rxq.source.valid`,
`txq.sink.ready`) are off too is the model's choice (log entry 23). -/
def Obligations.ResetSysOperation : Prop :=
  ∀ s : State,
    (s.sy.rst = true → selects s .rstSys = .ok .resetSys) ∧
    exec .resetSys s = .next { s with
      sy := { SysWires.off with rst := true }
      pkt := ⟨.idle, 0⟩
      dpk := ⟨.idle, false, 0, 0, 0, s.cfg.depackTimeout - 1, 0⟩
      xbar := ⟨0, false, 0⟩
      tls := ⟨.fill, [], 0, 0, false⟩
      tlr := ⟨0, false⟩
      rxq := if s.linkHeld then ⟨[], 0, 0⟩ else s.rxq
      txq := if s.linkHeld then ⟨[], 0, 0⟩ else s.txq }

/-- R320: a new tag becomes the key of the next port, whose channels come into being; a registered
tag is the configuration error, which halts start-up. That the operation, which does not exist
after the first tick, is refused by name once `started` is set is the model's choice (log entry 20);
so is that an event in which neither domain ticks sets `started` too, after which the hardware may
still register a port (log entry 25). -/
def Obligations.RegisterPort : Prop :=
  ∀ (s : State) (t : Tag),
    selects s (.regPort t) = .ok (.xbarRegisterPort t) ∧
    (s.started = false → t ∉ s.cfg.tags →
      exec (.xbarRegisterPort t) s = .next { s with
        cfg := { s.cfg with tags := s.cfg.tags ++ [t] }
        sy := { s.sy with
          inPorts := s.sy.inPorts ++ [chanOff]
          outPorts := s.sy.outPorts ++ [chanOff] } }) ∧
    (s.started = false → t ∈ s.cfg.tags → exec (.xbarRegisterPort t) s = .fault .configError) ∧
    (s.started = true → exec (.xbarRegisterPort t) s = .refused .portTableClosed)

/-! ### The port table at start-up -/

/-- R320, R334, R364: before the first tick the elaboration registers a list of distinct tags in
list order and changes no register; a list in which a tag occurs twice ends in the configuration
error. That each tag takes two steps, driven by `pendingTags`, is the model's choice (log entry 3).
-/
def Obligations.ElaborationBuildsPortTable : Prop :=
  ∀ (c : Cfg) (ts : List Tag),
    let start := { State.resetWith { c with tags := [] } with pendingTags := ts }
    (ts.Nodup → ∃ t, Host.Core.run Sys2Proof.core (2 * ts.length) start = .next t ∧
      t.cfg = { c with tags := ts } ∧ t.pendingTags = [] ∧ t.agenda = [] ∧ t.started = false ∧
      t.regs = Regs.reset c) ∧
    (¬ ts.Nodup → Host.Core.run Sys2Proof.core (2 * ts.length) start = .fault .configError)

/-- R5, R321, R334: no tick runs under a configuration that breaks a constraint of R5. That the
model faults in place of the tick is its choice (log entry 19); so is that a configuration without
ports, which R248 calls legal, is one of those refused, for its TLP tag is in no table (log entry
21). -/
def Obligations.InadmissibleConfigurationHasNoTick : Prop :=
  ∀ (s : State) (link : Option LinkIn) (sys : Option SysIn), AtRest s →
    (¬ s.cfg.tags.Nodup ∨ s.cfg.tlpTag ∉ s.cfg.tags ∨ s.cfg.depackTimeout = 0 ∨
      s.cfg.rxqDepth = 0 ∨ s.cfg.txqDepth = 0 ∨ s.cfg.tlpTxqDepth = 0) →
    perform (.tick link sys) s = .fault .configError

/-! ### Reset -/

/-- R47: the values of the state elements after reset, at the model's start state. The
configuration is that of R322, its OPEN parameters free (log entry 1). -/
def Obligations.ResetState : Prop :=
  State.reset.cfg.tags = [0, 1] ∧ State.reset.cfg.tlpTag = 1 ∧
  State.reset.cfg.depackTimerRestartOnWord = false ∧
  State.reset.lbf =
    ⟨.receive, State.reset.cfg.tRx - 1, State.reset.cfg.tTx - 1⟩ ∧
  State.reset.pkt = ⟨.idle, 0⟩ ∧
  State.reset.dpk = ⟨.idle, false, 0, 0, 0, State.reset.cfg.depackTimeout - 1, 0⟩ ∧
  State.reset.xbar = ⟨0, false, 0⟩ ∧
  State.reset.tls = ⟨.fill, [], 0, 0, false⟩ ∧
  State.reset.tlr = ⟨0, false⟩ ∧
  State.reset.rxq = ⟨[], 0, 0⟩ ∧ State.reset.txq = ⟨[], 0, 0⟩

/-- R47, R318, R319: after a reset tick of both domains, at one instant or one after the other in
either order, every register holds its reset value and both cross-domain FIFOs are empty. That two
reset ticks one after the other count as both resets asserted together is the model's reading of
R319 (log entry 11). -/
def Obligations.ResetOfBothDomains : Prop :=
  ∀ (s : State) (l : LinkIn) (y : SysIn), s.cfg.admitted = true → AtRest s →
    l.rst = true → y.rst = true →
    ∀ es, es = [.tick (some l) (some y)] ∨ es = [.tick (some l) none, .tick none (some y)] ∨
        es = [.tick none (some y), .tick (some l) none] →
      ∃ t, performAll es s = .next t ∧
        t.regs = { lbf := ⟨.receive, s.cfg.tRx - 1, s.cfg.tTx - 1⟩
                   pkt := ⟨.idle, 0⟩
                   dpk := ⟨.idle, false, 0, 0, 0, s.cfg.depackTimeout - 1, 0⟩
                   xbar := ⟨0, false, 0⟩
                   tls := ⟨.fill, [], 0, 0, false⟩
                   tlr := ⟨0, false⟩
                   rxq := ⟨[], 0, 0⟩
                   txq := ⟨[], 0, 0⟩ }

/-- R134: the reset of one domain alone empties `tls.q` if it is the system domain and leaves the
contents and the ghost counters of `rxq` and `txq` as they are; the reset of both together empties
them. That a reset is alone where the other domain's flag is 0 is the model's reading of R319 (log
entry 11). -/
def Obligations.ResetsAndFifos : Prop :=
  ∀ (s : State) (l : LinkIn) (y : SysIn), s.cfg.admitted = true → AtRest s →
    l.rst = true → y.rst = true →
    (s.linkHeld = false → ∃ t, perform (.tick none (some y)) s = .next t ∧
      t.tls.q = [] ∧ t.rxq = s.rxq ∧ t.txq = s.txq ∧ t.lbf = s.lbf) ∧
    (s.sysHeld = false → ∃ t, perform (.tick (some l) none) s = .next t ∧
      t.rxq = s.rxq ∧ t.txq = s.txq ∧ t.tls = s.tls) ∧
    (∃ t, perform (.tick (some l) (some y)) s = .next t ∧
      t.tls.q = [] ∧ t.rxq = ⟨[], 0, 0⟩ ∧ t.txq = ⟨[], 0, 0⟩)

/-- R362 (the spec's own inference): the operations and the outputs of the first tick after reset,
all inputs idle. -/
def Obligations.FirstTickAfterReset : Prop :=
  ∀ (c : Cfg) (l : LinkIn) (y : SysIn), c.admitted = true → linkIdle l → sysIdle y →
    let u := openTick (State.resetWith c) (some l) (some y)
    (∃ r t, selects u .lbf = .ok (.lbfRxStayNotx r t)) ∧
    (∃ t h p a r, selects u .dpk = .ok (.dpkIdleWait t h p a r)) ∧
    (∃ h1 h0 a r, selects u .pkt = .ok (.pktIdleWait h1 h0 a r)) ∧
    (∃ h a r, selects u .xd = .ok (.xdIdle h a r)) ∧
    (∃ a r, selects u .xa = .ok (.xaPark a r)) ∧
    (∃ a f h b w r, selects u .tls = .ok (.tlsFillWait a f h b w r)) ∧
    (∃ h a r, selects u .tlr = .ok (.tlrIdle h a r)) ∧
    u.lk.linkRx.ready = u.lk.rxqSink.ready ∧ u.lk.rxqSink.ready = true ∧
    u.lk.rxWindow = true ∧ u.lk.txWindow = false ∧ u.sy.tlpTxIn.ready = true ∧
    u.lk.rxqSink.valid = false ∧ u.lk.linkTx.valid = false ∧ u.sy.dpkSource.valid = false ∧
    (∀ i, (portChan u.sy.inPorts i).valid = false) ∧ u.sy.tlpRxOut.valid = false ∧
    (portChan u.sy.outPorts c.tlpPort).valid = false ∧ u.sy.mTx.valid = false ∧
    u.sy.pktSource.valid = false ∧ (portChan u.sy.outPorts 0).ready = false ∧
    u.sy.mTx.ready = false

/-! ### The signals of a tick -/

/-- R146, R143: the link outputs in a tick without reset; a word moves on the two receive channels
at once, and on the two transmit channels, in the window of its direction. -/
def Obligations.LinkOutputs : Prop :=
  ∀ (s : State) (i : LinkIn), i.rst = false →
    let w := settleLink s i
    let rxRoom := decide (s.rxq.items.length + s.rxq.freed < s.cfg.rxqDepth)
    let txAvail := decide (0 < s.txq.vis)
    w.rxWindow = (s.lbf.st == .receive) ∧ w.txWindow = (s.lbf.st == .transmit) ∧
    w.linkRx.ready = (w.rxWindow && rxRoom) ∧
    w.rxqSink.valid = (w.rxWindow && i.rxValid) ∧ w.rxqSink.pay = i.rxData ∧
    w.linkTx.valid = (w.txWindow && txAvail) ∧ w.linkTx.pay = w.txqSource.pay ∧
    (∀ x xs, s.txq.items = x :: xs → w.txqSource.pay = x) ∧
    w.txqSource.ready = (w.txWindow && i.txReady) ∧
    transfers w.linkRx = (w.rxWindow && (i.rxValid && rxRoom)) ∧
    transfers w.rxqSink = transfers w.linkRx ∧
    transfers w.txqSource = (w.txWindow && (txAvail && i.txReady)) ∧
    transfers w.linkTx = transfers w.txqSource

/-- R147 (the spec's own inference): in every tick at most one window is open, hence at most one of
`link_rx.ready` and `link_tx.valid` is 1; a tick with one window open is never followed, as the
next tick of the link domain, by a tick with the other open. -/
def Obligations.BusMutualExclusion : Prop :=
  (∀ (s : State) (i : LinkIn),
    ((settleLink s i).rxWindow && (settleLink s i).txWindow) = false ∧
    ((settleLink s i).linkRx.ready && (settleLink s i).linkTx.valid) = false) ∧
  (∀ (s t : State) (i : LinkIn) (sys : Option SysIn), Inv s → AtRest s →
    perform (.tick (some i) sys) s = .next t →
    ∀ j, ((settleLink s i).rxWindow && (settleLink t j).txWindow) = false ∧
      ((settleLink s i).txWindow && (settleLink t j).rxWindow) = false) ∧
  (∀ (s t : State) (e : Event), Inv s → AtRest s → (∀ i sys, e ≠ .tick (some i) sys) →
    perform e s = .next t → t.lbf = s.lbf)

/-- R8 (the spec's own inference), R316: evaluating `valid` downstream and then `ready` upstream
settles the system wires: every output rule holds of the result at once, and the same of the link
wires. -/
def Obligations.SettledWiresAreAFixedPoint : Prop :=
  (∀ (s : State) (i : SysIn), i.rst = false → SysSettled s (settleSys s i)) ∧
  (∀ (s : State) (i : LinkIn), i.rst = false → lbfWires s (settleLink s i) = settleLink s i)

/-- R195, R194: the Depacketizer's outputs on the settled wires. -/
def Obligations.DepacketizerOutputs : Prop :=
  ∀ (s : State) (i : SysIn), i.rst = false →
    let w := settleSys s i
    let done := s.dpk.st != .idle && s.dpk.timer == 0
    let efflen : Word := if s.dpk.lenR = 0 then 1 else s.dpk.lenR
    w.abortEvt = done ∧
    (s.dpk.st = .idle → w.dpkSink.ready = true ∧ w.dpkSource.valid = false) ∧
    (s.dpk.st = .receiveHeader → w.dpkSink.ready = !done ∧ w.dpkSource.valid = false) ∧
    (s.dpk.st = .copy → done = true → w.dpkSink.ready = false ∧ w.dpkSource.valid = false) ∧
    (s.dpk.st = .copy → done = false →
      w.dpkSink.ready = w.dpkSource.ready ∧ w.dpkSource.valid = w.dpkSink.valid ∧
      w.dpkSource.pay = ⟨w.dpkSink.pay, s.dpk.cnt == efflen - 1, s.dpk.dstR, efflen⟩ ∧
      transfers w.dpkSink = transfers w.dpkSource)

/-- R231, R232: the dispatch outputs on the settled wires, the tags being unique. -/
def Obligations.DispatchOutputs : Prop :=
  ∀ (s : State) (i : SysIn), i.rst = false → s.cfg.tags.Nodup →
    let w := settleSys s i
    let m := w.dpkSource
    (∀ k t, s.cfg.tags[k]? = some t →
      (portChan w.inPorts k).valid = (m.valid && m.pay.dst == t) ∧
      (portChan w.inPorts k).pay = m.pay ∧
      (m.pay.dst = t → m.ready = (portChan w.inPorts k).ready)) ∧
    (m.pay.dst ∉ s.cfg.tags → m.ready = true) ∧
    w.unroutedEvt = (m.valid && decide (m.pay.dst ∉ s.cfg.tags) && m.pay.last)

/-- R238: the arbiter outputs on the settled wires. -/
def Obligations.ArbiterOutputs : Prop :=
  ∀ (s : State) (i : SysIn), i.rst = false → s.xbar.grant < s.cfg.nPorts →
    let w := settleSys s i
    let g := portChan w.outPorts s.xbar.grant
    w.mTx.valid = g.valid ∧ w.mTx.pay = g.pay ∧ g.ready = w.mTx.ready ∧
    ∀ k, k ≠ s.xbar.grant → (portChan w.outPorts k).ready = false

/-- R171, R173: the Packetizer outputs on the settled wires. -/
def Obligations.PacketizerOutputs : Prop :=
  ∀ (s : State) (i : SysIn), i.rst = false →
    let w := settleSys s i
    (s.pkt.st = .idle → w.mTx.ready = false ∧ w.pktSource.valid = false) ∧
    (s.pkt.st = .insertHeader → w.mTx.ready = false ∧ w.pktSource.valid = true ∧
      w.pktSource.pay.last = false ∧
      w.pktSource.pay.data =
        if s.pkt.hidx = 0 then 0x5AA55AA5
        else if s.pkt.hidx = 1 then w.mTx.pay.dst.zeroExtend 32 else w.mTx.pay.length) ∧
    (s.pkt.st = .copy → w.mTx.ready = w.pktSource.ready ∧ w.pktSource.valid = w.mTx.valid ∧
      w.pktSource.pay = ⟨w.mTx.pay.data, w.mTx.pay.last⟩ ∧
      transfers w.mTx = transfers w.pktSource)

/-- R264: the TLP Sender outputs on the settled wires. -/
def Obligations.SenderOutputs : Prop :=
  ∀ (s : State) (i : SysIn), i.rst = false → s.cfg.tlpPort < s.cfg.nPorts →
    let w := settleSys s i
    let out := portChan w.outPorts s.cfg.tlpPort
    (s.tls.st = .fill → w.tlpTxIn.ready = true ∧ out.valid = false) ∧
    (s.tls.st = .send → w.tlpTxIn.ready = false ∧ out.valid = true ∧
      out.pay.dst = s.cfg.tlpTag ∧
      (s.tls.wcount < 2 ^ 32 → out.pay.length = BitVec.ofNat 32 (max s.tls.wcount 1)) ∧
      (1 ≤ s.tls.wcount → out.pay.last = (s.tls.sent == s.tls.wcount - 1)) ∧
      ∀ hd rest, s.tls.q = hd :: rest → out.pay.data =
        if s.tls.half then hd.data.extractLsb' 32 32 else hd.data.extractLsb' 0 32)

/-- R292: the TLP Receiver outputs on the settled wires. -/
def Obligations.ReceiverOutputs : Prop :=
  ∀ (s : State) (y : SysIn), y.rst = false → s.cfg.tlpPort < s.cfg.nPorts →
    let w := settleSys s y
    let i := portChan w.inPorts s.cfg.tlpPort
    let o := w.tlpRxOut
    (s.tlr.haveLow = false → o.valid = (i.valid && i.pay.last) ∧
      o.pay = ⟨(0 : Word) ++ i.pay.data, 0x0F, true⟩ ∧
      i.ready = if i.pay.last then o.ready else true) ∧
    (s.tlr.haveLow = true → o.valid = i.valid ∧
      o.pay = ⟨i.pay.data ++ s.tlr.low, 0xFF, i.pay.last⟩ ∧ i.ready = o.ready)

/-- R250 (the spec's own inference): a word transferred on `in[k]` is for the tag of port `k`; a
word for that tag is transferred there or not at all; a word for no tag is transferred on no `in`
channel. -/
def Obligations.RoutingCorrectness : Prop :=
  ∀ (s : State) (i : SysIn), i.rst = false → s.cfg.tags.Nodup →
    let w := settleSys s i
    (∀ k t, s.cfg.tags[k]? = some t →
      (transfers (portChan w.inPorts k) = true → (portChan w.inPorts k).pay.dst = t) ∧
      (w.dpkSource.pay.dst = t → transfers w.dpkSource = transfers (portChan w.inPorts k) ∧
        ∀ j, j ≠ k → transfers (portChan w.inPorts j) = false)) ∧
    (w.dpkSource.pay.dst ∉ s.cfg.tags → ∀ k, transfers (portChan w.inPorts k) = false)

/-- R338 (the spec's own inference): the event pulses of one tick exclude each other, and an abort
never falls in `IDLE`, the state of a framing error. -/
def Obligations.EventsExcludeEachOther : Prop :=
  ∀ (s : State) (i : SysIn),
    ((settleSys s i).abortEvt && (settleSys s i).unroutedEvt) = false ∧
    (s.dpk.st = .idle → (settleSys s i).abortEvt = false)

/-! ### Arbitration -/

/-- R240: `next(g)` is the first port after `g` in cyclic order that offers a word, and `g` if none
of the others does. -/
def Obligations.RoundRobinNextGrant : Prop :=
  ∀ (s : State) (g : Nat), g < s.cfg.nPorts →
    let n := s.cfg.nPorts
    (∃ k, 1 ≤ k ∧ k < n ∧ nextGrant s g = (g + k) % n ∧
      (portChan s.sy.outPorts ((g + k) % n)).valid = true ∧
      ∀ m, 1 ≤ m → m < k → (portChan s.sy.outPorts ((g + m) % n)).valid = false) ∨
    (nextGrant s g = g ∧
      ∀ m, 1 ≤ m → m < n → (portChan s.sy.outPorts ((g + m) % n)).valid = false)

/-- R249 (the spec's own inference): the grant moves only while the granted port does not request,
or with the transfer of a packet's last word; and while a packet is in progress the grant is
locked. -/
def Obligations.PacketsAreNotInterleaved : Prop :=
  ∀ (s t : State) (i : Instr), selects s .xa = .ok i → exec i s = .next t →
    let g := portChan s.sy.outPorts s.xbar.grant
    (t.xbar.grant ≠ s.xbar.grant →
      (g.valid = false ∧ s.xbar.locked = false) ∨
      (g.valid = true ∧ g.pay.last = true ∧ s.sy.mTx.ready = true)) ∧
    (t.xbar.locked = if g.valid && s.sy.mTx.ready then !g.pay.last else s.xbar.locked)

/-- R249 (the spec's own inference): each move of the grant brings it nearer, in cyclic order, to a
port that offers a word. -/
def Obligations.GrantApproachesWaitingPort : Prop :=
  ∀ (s : State) (g p : Nat), g < s.cfg.nPorts → p < s.cfg.nPorts → p ≠ g →
    (portChan s.sy.outPorts p).valid = true →
    let n := s.cfg.nPorts
    nextGrant s g < n ∧ (p + n - nextGrant s g) % n < (p + n - g) % n

/-! ### The whole machine -/

/-- Every step keeps the invariants, from every state that has them (R27 to R42, R131, R276). -/
def Obligations.EveryStepKeepsInvariants : Prop :=
  ∀ s t : State, Inv s → step s = .next t → Inv t

/-- The start state has the invariants, is live, and is at rest. -/
def Obligations.ResetHasInvariants : Prop :=
  Inv State.reset ∧ Live State.reset ∧ AtRest State.reset

/-- R11, R20, R121: from a state that has the invariants and is live no step stops, whatever the
environment does, and liveness is kept: the link core has no operation that refuses or faults in
the steady-state data path. -/
def Obligations.RunningCoreNeverStops : Prop :=
  ∀ s : State, Inv s → Live s → ∃ t, step s = .next t ∧ Inv t ∧ Live t

/-- R6: running the operations of a tick one by one has, in either domain and in both at one
instant, the effect of one pure function of the state and the inputs at its beginning: the updates
are simultaneous. The configuration is unchanged and the core is at rest again. -/
def Obligations.TickIsOneSimultaneousUpdate : Prop :=
  ∀ (s : State) (link : Option LinkIn) (sys : Option SysIn), Inv s → AtRest s →
    ∃ t, perform (.tick link sys) s = .next t ∧ t.regs = tickRegs s link sys ∧
      t.cfg = s.cfg ∧ t.agenda = [] ∧ t.started = true ∧ t.stim = [] ∧ t.now = s.now + 1

/-- R43, R337: a system tick without reset adds to each event counter exactly its pulse of that
tick, modulo 2^32; a reset of the system domain clears both; an event in which that domain does not
tick changes neither. -/
def Obligations.CountersCountPulses : Prop :=
  ∀ s : State, Inv s → AtRest s →
    (∀ (link : Option LinkIn) (i : SysIn), i.rst = false →
      ∃ t, perform (.tick link (some i)) s = .next t ∧
        t.dpk.abortCount = s.dpk.abortCount + (if (settleSys s i).abortEvt then 1 else 0) ∧
        t.xbar.unroutedCount =
          s.xbar.unroutedCount + (if (settleSys s i).unroutedEvt then 1 else 0)) ∧
    (∀ (link : Option LinkIn) (i : SysIn), i.rst = true →
      ∃ t, perform (.tick link (some i)) s = .next t ∧
        t.dpk.abortCount = 0 ∧ t.xbar.unroutedCount = 0) ∧
    (∀ e : Event, ticksSys e = false →
      ∃ t, perform e s = .next t ∧ t.dpk.abortCount = s.dpk.abortCount ∧
        t.xbar.unroutedCount = s.xbar.unroutedCount)

/-- On quiescence as R14 defines it, a consequence of the operations an idle core executes (R148,
R152, R153, R155, R157, R174, R197, R233, R241, R242, R266, R294) and no rule of its own: with idle
inputs a quiescent core stays quiescent in every tick, and neither its counters nor its FIFOs
change. -/
def Obligations.QuiescenceIsStable : Prop :=
  ∀ (s : State) (l : LinkIn) (y : SysIn) (link : Option LinkIn) (sys : Option SysIn),
    Inv s → AtRest s → Quiescent s → linkIdle l → sysIdle y →
    link ∈ [none, some l] → sys ∈ [none, some y] →
    ∃ t, perform (.tick link sys) s = .next t ∧ Quiescent t ∧
      t.rxq = s.rxq ∧ t.txq = s.txq ∧ t.xbar.unroutedCount = s.xbar.unroutedCount ∧
      t.dpk.abortCount = s.dpk.abortCount

/-! ### Sequences of ticks -/

/-- R158 (the spec's own inference): a receive window under a constant wish to transmit lasts at
most `T_RX` ticks, and exactly `T_RX` if the link wants to receive throughout; and the symmetric
statement for a transmit window. -/
def Obligations.WindowsAreBounded : Prop :=
  (∀ (s : State) (es : List Event), Inv s → AtRest s → s.lbf.st = .receive →
    1 ≤ s.cfg.tRx → s.lbf.rxTime = s.cfg.tRx - 1 → es.length = s.cfg.tRx →
    along (fun u e => LinkTick (fun i => linkWantsTx u i = true) e) es s →
    (∃ k t, k ≤ s.cfg.tRx ∧ performAll (es.take k) s = .next t ∧
      t.lbf.st = .receiveToTransmit) ∧
    (along (fun u e => LinkTick (fun i => linkWantsRx u i = true) e) es s →
      (∀ k, k < s.cfg.tRx → ∃ t, performAll (es.take k) s = .next t ∧ t.lbf.st = .receive) ∧
      ∃ t, performAll es s = .next t ∧ t.lbf.st = .receiveToTransmit)) ∧
  (∀ (s : State) (es : List Event), Inv s → AtRest s → s.lbf.st = .transmit →
    1 ≤ s.cfg.tTx → s.lbf.txTime = s.cfg.tTx - 1 → es.length = s.cfg.tTx →
    along (fun u e => LinkTick (fun i => linkWantsRx u i = true) e) es s →
    (∃ k t, k ≤ s.cfg.tTx ∧ performAll (es.take k) s = .next t ∧
      t.lbf.st = .transmitToReceive) ∧
    (along (fun u e => LinkTick (fun i => linkWantsTx u i = true) e) es s →
      (∀ k, k < s.cfg.tTx → ∃ t, performAll (es.take k) s = .next t ∧ t.lbf.st = .transmit) ∧
      ∃ t, performAll es s = .next t ∧ t.lbf.st = .transmitToReceive))

/-- R209 (the spec's own inference). Frame mode: a frame whose preamble is taken in one tick, and
of which no tick among the next `DEPACK_TIMEOUT - 1` transfers the last word, is in progress and
not aborted after each of them, and the tick after them aborts it. Word mode: the same is counted
from any tick that takes a word of a frame, the preamble included, and does not end the frame,
while no tick takes a further word. Events in which the system domain does not tick may lie
between. -/
def Obligations.AbortComesExactlyAtTimeout : Prop :=
  ∀ (s : State) (e : Event) (es : List Event), Inv s → AtRest s → SysTick e →
    (∀ a ∈ es, NoSysReset a) → es.countP ticksSys < s.cfg.depackTimeout →
    let abortsAtTimeout : Prop :=
      (∃ t, performAll (e :: es) s = .next t ∧ t.dpk.st ≠ .idle ∧
        t.dpk.abortCount = s.dpk.abortCount) ∧
      (es.countP ticksSys = s.cfg.depackTimeout - 1 → ∀ a, SysTick a →
        ∃ t, performAll (e :: es ++ [a]) s = .next t ∧ t.dpk.st = .idle ∧
          t.dpk.abortCount = s.dpk.abortCount + 1 ∧ t.sy.abortEvt = true)
    (s.cfg.depackTimerRestartOnWord = false → s.dpk.st = .idle → 0 < s.rxq.vis →
      s.rxq.items.head? = some 0x5AA55AA5 →
      (∀ t, perform e s = .next t → along (fun u a => endsFrame u a = false) es t) →
      abortsAtTimeout) ∧
    (s.cfg.depackTimerRestartOnWord = true → takesWord s e = true →
      (s.dpk.st = .idle → s.rxq.items.head? = some 0x5AA55AA5) → endsFrame s e = false →
      (∀ t, perform e s = .next t → along (fun u a => takesWord u a = false) es t) →
      abortsAtTimeout)

/-- R79, R133: the words a cross-domain FIFO, `rxq` or `txq`, delivers and those it still holds are
the words it held and those it accepted, in order, each once, whatever is offered, asked and
synchronised; its ghost counters stay in their ranges. Steps of the synchroniser outside the ranges
of R131 are brought into them (the model's choice: log entry 14). -/
def Obligations.FifoDeliversInOrder : Prop :=
  ∀ (q : CrossFifo) (s : State) (ops : List QueueOp),
    (s.crossFifo q).wf (s.crossDepth q) = true →
    let r := queueRun q ops s
    r.2.1 ++ (r.2.2.crossFifo q).items = (s.crossFifo q).items ++ r.1 ∧
      (r.2.2.crossFifo q).wf (s.crossDepth q) = true

/-- R184 (the spec's own inference): the Packetizer emits the frame of a packet in the `3 + n`
ticks after the one that sees it, `last` on the final word only, and is in `IDLE` again. -/
def Obligations.PacketizerEmitsFrame : Prop :=
  ∀ (s : State) (p : LinkPacket), s.pkt = ⟨.idle, 0⟩ → p.payload ≠ [] →
    let r := packetize (4 + p.payload.length) p.words s
    r.1.map LastWord.data = p.frame ∧
    r.1.map LastWord.last = List.replicate (2 + p.payload.length) false ++ [true] ∧
    r.2.pkt = ⟨.idle, 0⟩

/-- R212 (the spec's own inference): words before a frame that are not the preamble change nothing
in the packet that the Depacketizer delivers, if the timeout allows the frame (R211). -/
def Obligations.Resynchronisation : Prop :=
  ∀ (s : State) (g : List Word) (p : LinkPacket), p.wf → s.dpk.st = .idle →
    (∀ w ∈ g, w ≠ 0x5AA55AA5) →
    (p.payload.length + 3 ≤ s.cfg.depackTimeout ∨
      (s.cfg.depackTimerRestartOnWord = true ∧ 2 ≤ s.cfg.depackTimeout)) →
    let r := depacketize (g.length + 3 + p.payload.length) (g ++ p.frame) s
    r.1 = p.words ∧ r.2.dpk.st = .idle

/-- R213 (the spec's own inference): "Depacketizer(Packetizer(P)) == P", tag, length, payload and
`last`, without a timeout. -/
def Obligations.RoundTrip : Prop :=
  ∀ (s t : State) (p : LinkPacket), p.wf → s.pkt = ⟨.idle, 0⟩ → t.dpk.st = .idle →
    p.payload.length + 3 ≤ t.cfg.depackTimeout →
    (depacketize (3 + p.payload.length)
      ((packetize (4 + p.payload.length) p.words s).1.map LastWord.data) t).1 = p.words

/-- R276 (the spec's own inference), R265: a record that fits `tls.q` leaves as one well-formed
packet: the halves of its lanes in order, the length their number, `last` on the final one, and
`tls.q` is empty afterwards. -/
def Obligations.SenderEmitsOnePacket : Prop :=
  ∀ (s : State) (ls : List Lane), s.tls = Tls.reset → lastAtEnd ls →
    ls.length ≤ s.cfg.tlpTxqDepth → s.cfg.tlpTag ∈ s.cfg.tags →
    (ls.flatMap laneHalves).length < 2 ^ 32 →
    let ws := ls.flatMap laneHalves
    let r := sendLanes (ls.length + ws.length) ls s
    r.1 = upWords s.cfg.tlpTag (BitVec.ofNat 32 ws.length) ws ∧ r.2.tls = Tls.reset

/-- R300 (the spec's own inference): a packet of `n` words becomes its pairs, an odd last word a
lane with `be = 0x0F`, and no half is left. -/
def Obligations.ReceiverPairsWords : Prop :=
  ∀ (s : State) (dst : Tag) (length : Word) (ws : List Word), s.tlr.haveLow = false → ws ≠ [] →
    s.cfg.tlpTag ∈ s.cfg.tags →
    let r := receiveLanes ws.length (upWords dst length ws) s
    r.1 = pairLanes ws ∧ r.2.tlr.haveLow = false

/-- R278, R300 (the spec's own inference): "TLPReceiver(TLPSender(records)) == records" for a
record that the conversion preserves and that fits the sender's FIFO. -/
def Obligations.WidthConversionFidelity : Prop :=
  ∀ (s t : State) (ls : List Lane), s.tls = Tls.reset → wholeRecord ls →
    ls.length ≤ s.cfg.tlpTxqDepth → s.cfg.tlpTag ∈ s.cfg.tags → t.tlr.haveLow = false →
    t.cfg.tlpTag ∈ t.cfg.tags →
    let n := (ls.flatMap laneHalves).length
    (receiveLanes n (sendLanes (ls.length + n) ls s).1 t).1 = ls
end

