-- ==== Sys2Proof/Laws/State.lean ====
section
/-! SUPPORT. What each field reads after each update of the state, and after the updates that the
shared operations are made of: later proofs cite these and never unfold a record update. -/

namespace Sys2Proof.Machine

variable (s : State)

section
variable (v : Cfg)

@[simp] theorem State.setCfg_cfg : (s.setCfg v).cfg = v := rfl
@[simp] theorem State.setCfg_lbf : (s.setCfg v).lbf = s.lbf := rfl
@[simp] theorem State.setCfg_pkt : (s.setCfg v).pkt = s.pkt := rfl
@[simp] theorem State.setCfg_dpk : (s.setCfg v).dpk = s.dpk := rfl
@[simp] theorem State.setCfg_xbar : (s.setCfg v).xbar = s.xbar := rfl
@[simp] theorem State.setCfg_tls : (s.setCfg v).tls = s.tls := rfl
@[simp] theorem State.setCfg_tlr : (s.setCfg v).tlr = s.tlr := rfl
@[simp] theorem State.setCfg_rxq : (s.setCfg v).rxq = s.rxq := rfl
@[simp] theorem State.setCfg_txq : (s.setCfg v).txq = s.txq := rfl
@[simp] theorem State.setCfg_started : (s.setCfg v).started = s.started := rfl
@[simp] theorem State.setCfg_pendingTags : (s.setCfg v).pendingTags = s.pendingTags := rfl
@[simp] theorem State.setCfg_linkHeld : (s.setCfg v).linkHeld = s.linkHeld := rfl
@[simp] theorem State.setCfg_sysHeld : (s.setCfg v).sysHeld = s.sysHeld := rfl
@[simp] theorem State.setCfg_lk : (s.setCfg v).lk = s.lk := rfl
@[simp] theorem State.setCfg_sy : (s.setCfg v).sy = s.sy := rfl
@[simp] theorem State.setCfg_agenda : (s.setCfg v).agenda = s.agenda := rfl
@[simp] theorem State.setCfg_stim : (s.setCfg v).stim = s.stim := rfl
@[simp] theorem State.setCfg_now : (s.setCfg v).now = s.now := rfl

end

section
variable (v : Lbf)

@[simp] theorem State.setLbf_cfg : (s.setLbf v).cfg = s.cfg := rfl
@[simp] theorem State.setLbf_lbf : (s.setLbf v).lbf = v := rfl
@[simp] theorem State.setLbf_pkt : (s.setLbf v).pkt = s.pkt := rfl
@[simp] theorem State.setLbf_dpk : (s.setLbf v).dpk = s.dpk := rfl
@[simp] theorem State.setLbf_xbar : (s.setLbf v).xbar = s.xbar := rfl
@[simp] theorem State.setLbf_tls : (s.setLbf v).tls = s.tls := rfl
@[simp] theorem State.setLbf_tlr : (s.setLbf v).tlr = s.tlr := rfl
@[simp] theorem State.setLbf_rxq : (s.setLbf v).rxq = s.rxq := rfl
@[simp] theorem State.setLbf_txq : (s.setLbf v).txq = s.txq := rfl
@[simp] theorem State.setLbf_started : (s.setLbf v).started = s.started := rfl
@[simp] theorem State.setLbf_pendingTags : (s.setLbf v).pendingTags = s.pendingTags := rfl
@[simp] theorem State.setLbf_linkHeld : (s.setLbf v).linkHeld = s.linkHeld := rfl
@[simp] theorem State.setLbf_sysHeld : (s.setLbf v).sysHeld = s.sysHeld := rfl
@[simp] theorem State.setLbf_lk : (s.setLbf v).lk = s.lk := rfl
@[simp] theorem State.setLbf_sy : (s.setLbf v).sy = s.sy := rfl
@[simp] theorem State.setLbf_agenda : (s.setLbf v).agenda = s.agenda := rfl
@[simp] theorem State.setLbf_stim : (s.setLbf v).stim = s.stim := rfl
@[simp] theorem State.setLbf_now : (s.setLbf v).now = s.now := rfl

end

section
variable (v : Pkt)

@[simp] theorem State.setPkt_cfg : (s.setPkt v).cfg = s.cfg := rfl
@[simp] theorem State.setPkt_lbf : (s.setPkt v).lbf = s.lbf := rfl
@[simp] theorem State.setPkt_pkt : (s.setPkt v).pkt = v := rfl
@[simp] theorem State.setPkt_dpk : (s.setPkt v).dpk = s.dpk := rfl
@[simp] theorem State.setPkt_xbar : (s.setPkt v).xbar = s.xbar := rfl
@[simp] theorem State.setPkt_tls : (s.setPkt v).tls = s.tls := rfl
@[simp] theorem State.setPkt_tlr : (s.setPkt v).tlr = s.tlr := rfl
@[simp] theorem State.setPkt_rxq : (s.setPkt v).rxq = s.rxq := rfl
@[simp] theorem State.setPkt_txq : (s.setPkt v).txq = s.txq := rfl
@[simp] theorem State.setPkt_started : (s.setPkt v).started = s.started := rfl
@[simp] theorem State.setPkt_pendingTags : (s.setPkt v).pendingTags = s.pendingTags := rfl
@[simp] theorem State.setPkt_linkHeld : (s.setPkt v).linkHeld = s.linkHeld := rfl
@[simp] theorem State.setPkt_sysHeld : (s.setPkt v).sysHeld = s.sysHeld := rfl
@[simp] theorem State.setPkt_lk : (s.setPkt v).lk = s.lk := rfl
@[simp] theorem State.setPkt_sy : (s.setPkt v).sy = s.sy := rfl
@[simp] theorem State.setPkt_agenda : (s.setPkt v).agenda = s.agenda := rfl
@[simp] theorem State.setPkt_stim : (s.setPkt v).stim = s.stim := rfl
@[simp] theorem State.setPkt_now : (s.setPkt v).now = s.now := rfl

end

section
variable (v : Dpk)

@[simp] theorem State.setDpk_cfg : (s.setDpk v).cfg = s.cfg := rfl
@[simp] theorem State.setDpk_lbf : (s.setDpk v).lbf = s.lbf := rfl
@[simp] theorem State.setDpk_pkt : (s.setDpk v).pkt = s.pkt := rfl
@[simp] theorem State.setDpk_dpk : (s.setDpk v).dpk = v := rfl
@[simp] theorem State.setDpk_xbar : (s.setDpk v).xbar = s.xbar := rfl
@[simp] theorem State.setDpk_tls : (s.setDpk v).tls = s.tls := rfl
@[simp] theorem State.setDpk_tlr : (s.setDpk v).tlr = s.tlr := rfl
@[simp] theorem State.setDpk_rxq : (s.setDpk v).rxq = s.rxq := rfl
@[simp] theorem State.setDpk_txq : (s.setDpk v).txq = s.txq := rfl
@[simp] theorem State.setDpk_started : (s.setDpk v).started = s.started := rfl
@[simp] theorem State.setDpk_pendingTags : (s.setDpk v).pendingTags = s.pendingTags := rfl
@[simp] theorem State.setDpk_linkHeld : (s.setDpk v).linkHeld = s.linkHeld := rfl
@[simp] theorem State.setDpk_sysHeld : (s.setDpk v).sysHeld = s.sysHeld := rfl
@[simp] theorem State.setDpk_lk : (s.setDpk v).lk = s.lk := rfl
@[simp] theorem State.setDpk_sy : (s.setDpk v).sy = s.sy := rfl
@[simp] theorem State.setDpk_agenda : (s.setDpk v).agenda = s.agenda := rfl
@[simp] theorem State.setDpk_stim : (s.setDpk v).stim = s.stim := rfl
@[simp] theorem State.setDpk_now : (s.setDpk v).now = s.now := rfl

end

section
variable (v : Xbar)

@[simp] theorem State.setXbar_cfg : (s.setXbar v).cfg = s.cfg := rfl
@[simp] theorem State.setXbar_lbf : (s.setXbar v).lbf = s.lbf := rfl
@[simp] theorem State.setXbar_pkt : (s.setXbar v).pkt = s.pkt := rfl
@[simp] theorem State.setXbar_dpk : (s.setXbar v).dpk = s.dpk := rfl
@[simp] theorem State.setXbar_xbar : (s.setXbar v).xbar = v := rfl
@[simp] theorem State.setXbar_tls : (s.setXbar v).tls = s.tls := rfl
@[simp] theorem State.setXbar_tlr : (s.setXbar v).tlr = s.tlr := rfl
@[simp] theorem State.setXbar_rxq : (s.setXbar v).rxq = s.rxq := rfl
@[simp] theorem State.setXbar_txq : (s.setXbar v).txq = s.txq := rfl
@[simp] theorem State.setXbar_started : (s.setXbar v).started = s.started := rfl
@[simp] theorem State.setXbar_pendingTags : (s.setXbar v).pendingTags = s.pendingTags := rfl
@[simp] theorem State.setXbar_linkHeld : (s.setXbar v).linkHeld = s.linkHeld := rfl
@[simp] theorem State.setXbar_sysHeld : (s.setXbar v).sysHeld = s.sysHeld := rfl
@[simp] theorem State.setXbar_lk : (s.setXbar v).lk = s.lk := rfl
@[simp] theorem State.setXbar_sy : (s.setXbar v).sy = s.sy := rfl
@[simp] theorem State.setXbar_agenda : (s.setXbar v).agenda = s.agenda := rfl
@[simp] theorem State.setXbar_stim : (s.setXbar v).stim = s.stim := rfl
@[simp] theorem State.setXbar_now : (s.setXbar v).now = s.now := rfl

end

section
variable (v : Tls)

@[simp] theorem State.setTls_cfg : (s.setTls v).cfg = s.cfg := rfl
@[simp] theorem State.setTls_lbf : (s.setTls v).lbf = s.lbf := rfl
@[simp] theorem State.setTls_pkt : (s.setTls v).pkt = s.pkt := rfl
@[simp] theorem State.setTls_dpk : (s.setTls v).dpk = s.dpk := rfl
@[simp] theorem State.setTls_xbar : (s.setTls v).xbar = s.xbar := rfl
@[simp] theorem State.setTls_tls : (s.setTls v).tls = v := rfl
@[simp] theorem State.setTls_tlr : (s.setTls v).tlr = s.tlr := rfl
@[simp] theorem State.setTls_rxq : (s.setTls v).rxq = s.rxq := rfl
@[simp] theorem State.setTls_txq : (s.setTls v).txq = s.txq := rfl
@[simp] theorem State.setTls_started : (s.setTls v).started = s.started := rfl
@[simp] theorem State.setTls_pendingTags : (s.setTls v).pendingTags = s.pendingTags := rfl
@[simp] theorem State.setTls_linkHeld : (s.setTls v).linkHeld = s.linkHeld := rfl
@[simp] theorem State.setTls_sysHeld : (s.setTls v).sysHeld = s.sysHeld := rfl
@[simp] theorem State.setTls_lk : (s.setTls v).lk = s.lk := rfl
@[simp] theorem State.setTls_sy : (s.setTls v).sy = s.sy := rfl
@[simp] theorem State.setTls_agenda : (s.setTls v).agenda = s.agenda := rfl
@[simp] theorem State.setTls_stim : (s.setTls v).stim = s.stim := rfl
@[simp] theorem State.setTls_now : (s.setTls v).now = s.now := rfl

end

section
variable (v : Tlr)

@[simp] theorem State.setTlr_cfg : (s.setTlr v).cfg = s.cfg := rfl
@[simp] theorem State.setTlr_lbf : (s.setTlr v).lbf = s.lbf := rfl
@[simp] theorem State.setTlr_pkt : (s.setTlr v).pkt = s.pkt := rfl
@[simp] theorem State.setTlr_dpk : (s.setTlr v).dpk = s.dpk := rfl
@[simp] theorem State.setTlr_xbar : (s.setTlr v).xbar = s.xbar := rfl
@[simp] theorem State.setTlr_tls : (s.setTlr v).tls = s.tls := rfl
@[simp] theorem State.setTlr_tlr : (s.setTlr v).tlr = v := rfl
@[simp] theorem State.setTlr_rxq : (s.setTlr v).rxq = s.rxq := rfl
@[simp] theorem State.setTlr_txq : (s.setTlr v).txq = s.txq := rfl
@[simp] theorem State.setTlr_started : (s.setTlr v).started = s.started := rfl
@[simp] theorem State.setTlr_pendingTags : (s.setTlr v).pendingTags = s.pendingTags := rfl
@[simp] theorem State.setTlr_linkHeld : (s.setTlr v).linkHeld = s.linkHeld := rfl
@[simp] theorem State.setTlr_sysHeld : (s.setTlr v).sysHeld = s.sysHeld := rfl
@[simp] theorem State.setTlr_lk : (s.setTlr v).lk = s.lk := rfl
@[simp] theorem State.setTlr_sy : (s.setTlr v).sy = s.sy := rfl
@[simp] theorem State.setTlr_agenda : (s.setTlr v).agenda = s.agenda := rfl
@[simp] theorem State.setTlr_stim : (s.setTlr v).stim = s.stim := rfl
@[simp] theorem State.setTlr_now : (s.setTlr v).now = s.now := rfl

end

section
variable (v : Afifo)

@[simp] theorem State.setRxq_cfg : (s.setRxq v).cfg = s.cfg := rfl
@[simp] theorem State.setRxq_lbf : (s.setRxq v).lbf = s.lbf := rfl
@[simp] theorem State.setRxq_pkt : (s.setRxq v).pkt = s.pkt := rfl
@[simp] theorem State.setRxq_dpk : (s.setRxq v).dpk = s.dpk := rfl
@[simp] theorem State.setRxq_xbar : (s.setRxq v).xbar = s.xbar := rfl
@[simp] theorem State.setRxq_tls : (s.setRxq v).tls = s.tls := rfl
@[simp] theorem State.setRxq_tlr : (s.setRxq v).tlr = s.tlr := rfl
@[simp] theorem State.setRxq_rxq : (s.setRxq v).rxq = v := rfl
@[simp] theorem State.setRxq_txq : (s.setRxq v).txq = s.txq := rfl
@[simp] theorem State.setRxq_started : (s.setRxq v).started = s.started := rfl
@[simp] theorem State.setRxq_pendingTags : (s.setRxq v).pendingTags = s.pendingTags := rfl
@[simp] theorem State.setRxq_linkHeld : (s.setRxq v).linkHeld = s.linkHeld := rfl
@[simp] theorem State.setRxq_sysHeld : (s.setRxq v).sysHeld = s.sysHeld := rfl
@[simp] theorem State.setRxq_lk : (s.setRxq v).lk = s.lk := rfl
@[simp] theorem State.setRxq_sy : (s.setRxq v).sy = s.sy := rfl
@[simp] theorem State.setRxq_agenda : (s.setRxq v).agenda = s.agenda := rfl
@[simp] theorem State.setRxq_stim : (s.setRxq v).stim = s.stim := rfl
@[simp] theorem State.setRxq_now : (s.setRxq v).now = s.now := rfl

end

section
variable (v : Afifo)

@[simp] theorem State.setTxq_cfg : (s.setTxq v).cfg = s.cfg := rfl
@[simp] theorem State.setTxq_lbf : (s.setTxq v).lbf = s.lbf := rfl
@[simp] theorem State.setTxq_pkt : (s.setTxq v).pkt = s.pkt := rfl
@[simp] theorem State.setTxq_dpk : (s.setTxq v).dpk = s.dpk := rfl
@[simp] theorem State.setTxq_xbar : (s.setTxq v).xbar = s.xbar := rfl
@[simp] theorem State.setTxq_tls : (s.setTxq v).tls = s.tls := rfl
@[simp] theorem State.setTxq_tlr : (s.setTxq v).tlr = s.tlr := rfl
@[simp] theorem State.setTxq_rxq : (s.setTxq v).rxq = s.rxq := rfl
@[simp] theorem State.setTxq_txq : (s.setTxq v).txq = v := rfl
@[simp] theorem State.setTxq_started : (s.setTxq v).started = s.started := rfl
@[simp] theorem State.setTxq_pendingTags : (s.setTxq v).pendingTags = s.pendingTags := rfl
@[simp] theorem State.setTxq_linkHeld : (s.setTxq v).linkHeld = s.linkHeld := rfl
@[simp] theorem State.setTxq_sysHeld : (s.setTxq v).sysHeld = s.sysHeld := rfl
@[simp] theorem State.setTxq_lk : (s.setTxq v).lk = s.lk := rfl
@[simp] theorem State.setTxq_sy : (s.setTxq v).sy = s.sy := rfl
@[simp] theorem State.setTxq_agenda : (s.setTxq v).agenda = s.agenda := rfl
@[simp] theorem State.setTxq_stim : (s.setTxq v).stim = s.stim := rfl
@[simp] theorem State.setTxq_now : (s.setTxq v).now = s.now := rfl

end

section
variable (v : LinkWires)

@[simp] theorem State.setLk_cfg : (s.setLk v).cfg = s.cfg := rfl
@[simp] theorem State.setLk_lbf : (s.setLk v).lbf = s.lbf := rfl
@[simp] theorem State.setLk_pkt : (s.setLk v).pkt = s.pkt := rfl
@[simp] theorem State.setLk_dpk : (s.setLk v).dpk = s.dpk := rfl
@[simp] theorem State.setLk_xbar : (s.setLk v).xbar = s.xbar := rfl
@[simp] theorem State.setLk_tls : (s.setLk v).tls = s.tls := rfl
@[simp] theorem State.setLk_tlr : (s.setLk v).tlr = s.tlr := rfl
@[simp] theorem State.setLk_rxq : (s.setLk v).rxq = s.rxq := rfl
@[simp] theorem State.setLk_txq : (s.setLk v).txq = s.txq := rfl
@[simp] theorem State.setLk_started : (s.setLk v).started = s.started := rfl
@[simp] theorem State.setLk_pendingTags : (s.setLk v).pendingTags = s.pendingTags := rfl
@[simp] theorem State.setLk_linkHeld : (s.setLk v).linkHeld = s.linkHeld := rfl
@[simp] theorem State.setLk_sysHeld : (s.setLk v).sysHeld = s.sysHeld := rfl
@[simp] theorem State.setLk_lk : (s.setLk v).lk = v := rfl
@[simp] theorem State.setLk_sy : (s.setLk v).sy = s.sy := rfl
@[simp] theorem State.setLk_agenda : (s.setLk v).agenda = s.agenda := rfl
@[simp] theorem State.setLk_stim : (s.setLk v).stim = s.stim := rfl
@[simp] theorem State.setLk_now : (s.setLk v).now = s.now := rfl

end

section
variable (v : SysWires)

@[simp] theorem State.setSy_cfg : (s.setSy v).cfg = s.cfg := rfl
@[simp] theorem State.setSy_lbf : (s.setSy v).lbf = s.lbf := rfl
@[simp] theorem State.setSy_pkt : (s.setSy v).pkt = s.pkt := rfl
@[simp] theorem State.setSy_dpk : (s.setSy v).dpk = s.dpk := rfl
@[simp] theorem State.setSy_xbar : (s.setSy v).xbar = s.xbar := rfl
@[simp] theorem State.setSy_tls : (s.setSy v).tls = s.tls := rfl
@[simp] theorem State.setSy_tlr : (s.setSy v).tlr = s.tlr := rfl
@[simp] theorem State.setSy_rxq : (s.setSy v).rxq = s.rxq := rfl
@[simp] theorem State.setSy_txq : (s.setSy v).txq = s.txq := rfl
@[simp] theorem State.setSy_started : (s.setSy v).started = s.started := rfl
@[simp] theorem State.setSy_pendingTags : (s.setSy v).pendingTags = s.pendingTags := rfl
@[simp] theorem State.setSy_linkHeld : (s.setSy v).linkHeld = s.linkHeld := rfl
@[simp] theorem State.setSy_sysHeld : (s.setSy v).sysHeld = s.sysHeld := rfl
@[simp] theorem State.setSy_lk : (s.setSy v).lk = s.lk := rfl
@[simp] theorem State.setSy_sy : (s.setSy v).sy = v := rfl
@[simp] theorem State.setSy_agenda : (s.setSy v).agenda = s.agenda := rfl
@[simp] theorem State.setSy_stim : (s.setSy v).stim = s.stim := rfl
@[simp] theorem State.setSy_now : (s.setSy v).now = s.now := rfl

end

section
variable (v : List Site)

@[simp] theorem State.setAgenda_cfg : (s.setAgenda v).cfg = s.cfg := rfl
@[simp] theorem State.setAgenda_lbf : (s.setAgenda v).lbf = s.lbf := rfl
@[simp] theorem State.setAgenda_pkt : (s.setAgenda v).pkt = s.pkt := rfl
@[simp] theorem State.setAgenda_dpk : (s.setAgenda v).dpk = s.dpk := rfl
@[simp] theorem State.setAgenda_xbar : (s.setAgenda v).xbar = s.xbar := rfl
@[simp] theorem State.setAgenda_tls : (s.setAgenda v).tls = s.tls := rfl
@[simp] theorem State.setAgenda_tlr : (s.setAgenda v).tlr = s.tlr := rfl
@[simp] theorem State.setAgenda_rxq : (s.setAgenda v).rxq = s.rxq := rfl
@[simp] theorem State.setAgenda_txq : (s.setAgenda v).txq = s.txq := rfl
@[simp] theorem State.setAgenda_started : (s.setAgenda v).started = s.started := rfl
@[simp] theorem State.setAgenda_pendingTags : (s.setAgenda v).pendingTags = s.pendingTags := rfl
@[simp] theorem State.setAgenda_linkHeld : (s.setAgenda v).linkHeld = s.linkHeld := rfl
@[simp] theorem State.setAgenda_sysHeld : (s.setAgenda v).sysHeld = s.sysHeld := rfl
@[simp] theorem State.setAgenda_lk : (s.setAgenda v).lk = s.lk := rfl
@[simp] theorem State.setAgenda_sy : (s.setAgenda v).sy = s.sy := rfl
@[simp] theorem State.setAgenda_agenda : (s.setAgenda v).agenda = v := rfl
@[simp] theorem State.setAgenda_stim : (s.setAgenda v).stim = s.stim := rfl
@[simp] theorem State.setAgenda_now : (s.setAgenda v).now = s.now := rfl

end

/-! ### Driving a component's outputs changes its domain's wires alone -/

@[simp] theorem driveLbf_cfg : (driveLbf s).cfg = s.cfg := rfl
@[simp] theorem driveLbf_lbf : (driveLbf s).lbf = s.lbf := rfl
@[simp] theorem driveLbf_pkt : (driveLbf s).pkt = s.pkt := rfl
@[simp] theorem driveLbf_dpk : (driveLbf s).dpk = s.dpk := rfl
@[simp] theorem driveLbf_xbar : (driveLbf s).xbar = s.xbar := rfl
@[simp] theorem driveLbf_tls : (driveLbf s).tls = s.tls := rfl
@[simp] theorem driveLbf_tlr : (driveLbf s).tlr = s.tlr := rfl
@[simp] theorem driveLbf_rxq : (driveLbf s).rxq = s.rxq := rfl
@[simp] theorem driveLbf_txq : (driveLbf s).txq = s.txq := rfl
@[simp] theorem driveLbf_started : (driveLbf s).started = s.started := rfl
@[simp] theorem driveLbf_pendingTags : (driveLbf s).pendingTags = s.pendingTags := rfl
@[simp] theorem driveLbf_linkHeld : (driveLbf s).linkHeld = s.linkHeld := rfl
@[simp] theorem driveLbf_sysHeld : (driveLbf s).sysHeld = s.sysHeld := rfl
@[simp] theorem driveLbf_lk : (driveLbf s).lk = lbfWires s s.lk := rfl
@[simp] theorem driveLbf_sy : (driveLbf s).sy = s.sy := rfl
@[simp] theorem driveLbf_agenda : (driveLbf s).agenda = s.agenda := rfl
@[simp] theorem driveLbf_stim : (driveLbf s).stim = s.stim := rfl
@[simp] theorem driveLbf_now : (driveLbf s).now = s.now := rfl

@[simp] theorem drivePkt_cfg : (drivePkt s).cfg = s.cfg := rfl
@[simp] theorem drivePkt_lbf : (drivePkt s).lbf = s.lbf := rfl
@[simp] theorem drivePkt_pkt : (drivePkt s).pkt = s.pkt := rfl
@[simp] theorem drivePkt_dpk : (drivePkt s).dpk = s.dpk := rfl
@[simp] theorem drivePkt_xbar : (drivePkt s).xbar = s.xbar := rfl
@[simp] theorem drivePkt_tls : (drivePkt s).tls = s.tls := rfl
@[simp] theorem drivePkt_tlr : (drivePkt s).tlr = s.tlr := rfl
@[simp] theorem drivePkt_rxq : (drivePkt s).rxq = s.rxq := rfl
@[simp] theorem drivePkt_txq : (drivePkt s).txq = s.txq := rfl
@[simp] theorem drivePkt_started : (drivePkt s).started = s.started := rfl
@[simp] theorem drivePkt_pendingTags : (drivePkt s).pendingTags = s.pendingTags := rfl
@[simp] theorem drivePkt_linkHeld : (drivePkt s).linkHeld = s.linkHeld := rfl
@[simp] theorem drivePkt_sysHeld : (drivePkt s).sysHeld = s.sysHeld := rfl
@[simp] theorem drivePkt_lk : (drivePkt s).lk = s.lk := rfl
@[simp] theorem drivePkt_sy : (drivePkt s).sy = pktAccept s (pktOffer s s.sy) := rfl
@[simp] theorem drivePkt_agenda : (drivePkt s).agenda = s.agenda := rfl
@[simp] theorem drivePkt_stim : (drivePkt s).stim = s.stim := rfl
@[simp] theorem drivePkt_now : (drivePkt s).now = s.now := rfl

@[simp] theorem driveDpk_cfg : (driveDpk s).cfg = s.cfg := rfl
@[simp] theorem driveDpk_lbf : (driveDpk s).lbf = s.lbf := rfl
@[simp] theorem driveDpk_pkt : (driveDpk s).pkt = s.pkt := rfl
@[simp] theorem driveDpk_dpk : (driveDpk s).dpk = s.dpk := rfl
@[simp] theorem driveDpk_xbar : (driveDpk s).xbar = s.xbar := rfl
@[simp] theorem driveDpk_tls : (driveDpk s).tls = s.tls := rfl
@[simp] theorem driveDpk_tlr : (driveDpk s).tlr = s.tlr := rfl
@[simp] theorem driveDpk_rxq : (driveDpk s).rxq = s.rxq := rfl
@[simp] theorem driveDpk_txq : (driveDpk s).txq = s.txq := rfl
@[simp] theorem driveDpk_started : (driveDpk s).started = s.started := rfl
@[simp] theorem driveDpk_pendingTags : (driveDpk s).pendingTags = s.pendingTags := rfl
@[simp] theorem driveDpk_linkHeld : (driveDpk s).linkHeld = s.linkHeld := rfl
@[simp] theorem driveDpk_sysHeld : (driveDpk s).sysHeld = s.sysHeld := rfl
@[simp] theorem driveDpk_lk : (driveDpk s).lk = s.lk := rfl
@[simp] theorem driveDpk_sy : (driveDpk s).sy = dpkAccept s (dpkOffer s s.sy) := rfl
@[simp] theorem driveDpk_agenda : (driveDpk s).agenda = s.agenda := rfl
@[simp] theorem driveDpk_stim : (driveDpk s).stim = s.stim := rfl
@[simp] theorem driveDpk_now : (driveDpk s).now = s.now := rfl

@[simp] theorem driveXd_cfg : (driveXd s).cfg = s.cfg := rfl
@[simp] theorem driveXd_lbf : (driveXd s).lbf = s.lbf := rfl
@[simp] theorem driveXd_pkt : (driveXd s).pkt = s.pkt := rfl
@[simp] theorem driveXd_dpk : (driveXd s).dpk = s.dpk := rfl
@[simp] theorem driveXd_xbar : (driveXd s).xbar = s.xbar := rfl
@[simp] theorem driveXd_tls : (driveXd s).tls = s.tls := rfl
@[simp] theorem driveXd_tlr : (driveXd s).tlr = s.tlr := rfl
@[simp] theorem driveXd_rxq : (driveXd s).rxq = s.rxq := rfl
@[simp] theorem driveXd_txq : (driveXd s).txq = s.txq := rfl
@[simp] theorem driveXd_started : (driveXd s).started = s.started := rfl
@[simp] theorem driveXd_pendingTags : (driveXd s).pendingTags = s.pendingTags := rfl
@[simp] theorem driveXd_linkHeld : (driveXd s).linkHeld = s.linkHeld := rfl
@[simp] theorem driveXd_sysHeld : (driveXd s).sysHeld = s.sysHeld := rfl
@[simp] theorem driveXd_lk : (driveXd s).lk = s.lk := rfl
@[simp] theorem driveXd_sy : (driveXd s).sy = xdAccept s (xdOffer s s.sy) := rfl
@[simp] theorem driveXd_agenda : (driveXd s).agenda = s.agenda := rfl
@[simp] theorem driveXd_stim : (driveXd s).stim = s.stim := rfl
@[simp] theorem driveXd_now : (driveXd s).now = s.now := rfl

@[simp] theorem driveXa_cfg : (driveXa s).cfg = s.cfg := rfl
@[simp] theorem driveXa_lbf : (driveXa s).lbf = s.lbf := rfl
@[simp] theorem driveXa_pkt : (driveXa s).pkt = s.pkt := rfl
@[simp] theorem driveXa_dpk : (driveXa s).dpk = s.dpk := rfl
@[simp] theorem driveXa_xbar : (driveXa s).xbar = s.xbar := rfl
@[simp] theorem driveXa_tls : (driveXa s).tls = s.tls := rfl
@[simp] theorem driveXa_tlr : (driveXa s).tlr = s.tlr := rfl
@[simp] theorem driveXa_rxq : (driveXa s).rxq = s.rxq := rfl
@[simp] theorem driveXa_txq : (driveXa s).txq = s.txq := rfl
@[simp] theorem driveXa_started : (driveXa s).started = s.started := rfl
@[simp] theorem driveXa_pendingTags : (driveXa s).pendingTags = s.pendingTags := rfl
@[simp] theorem driveXa_linkHeld : (driveXa s).linkHeld = s.linkHeld := rfl
@[simp] theorem driveXa_sysHeld : (driveXa s).sysHeld = s.sysHeld := rfl
@[simp] theorem driveXa_lk : (driveXa s).lk = s.lk := rfl
@[simp] theorem driveXa_sy : (driveXa s).sy = xaAccept s (xaOffer s s.sy) := rfl
@[simp] theorem driveXa_agenda : (driveXa s).agenda = s.agenda := rfl
@[simp] theorem driveXa_stim : (driveXa s).stim = s.stim := rfl
@[simp] theorem driveXa_now : (driveXa s).now = s.now := rfl

@[simp] theorem driveTls_cfg : (driveTls s).cfg = s.cfg := rfl
@[simp] theorem driveTls_lbf : (driveTls s).lbf = s.lbf := rfl
@[simp] theorem driveTls_pkt : (driveTls s).pkt = s.pkt := rfl
@[simp] theorem driveTls_dpk : (driveTls s).dpk = s.dpk := rfl
@[simp] theorem driveTls_xbar : (driveTls s).xbar = s.xbar := rfl
@[simp] theorem driveTls_tls : (driveTls s).tls = s.tls := rfl
@[simp] theorem driveTls_tlr : (driveTls s).tlr = s.tlr := rfl
@[simp] theorem driveTls_rxq : (driveTls s).rxq = s.rxq := rfl
@[simp] theorem driveTls_txq : (driveTls s).txq = s.txq := rfl
@[simp] theorem driveTls_started : (driveTls s).started = s.started := rfl
@[simp] theorem driveTls_pendingTags : (driveTls s).pendingTags = s.pendingTags := rfl
@[simp] theorem driveTls_linkHeld : (driveTls s).linkHeld = s.linkHeld := rfl
@[simp] theorem driveTls_sysHeld : (driveTls s).sysHeld = s.sysHeld := rfl
@[simp] theorem driveTls_lk : (driveTls s).lk = s.lk := rfl
@[simp] theorem driveTls_sy : (driveTls s).sy = tlsAccept s (tlsOffer s s.sy) := rfl
@[simp] theorem driveTls_agenda : (driveTls s).agenda = s.agenda := rfl
@[simp] theorem driveTls_stim : (driveTls s).stim = s.stim := rfl
@[simp] theorem driveTls_now : (driveTls s).now = s.now := rfl

@[simp] theorem driveTlr_cfg : (driveTlr s).cfg = s.cfg := rfl
@[simp] theorem driveTlr_lbf : (driveTlr s).lbf = s.lbf := rfl
@[simp] theorem driveTlr_pkt : (driveTlr s).pkt = s.pkt := rfl
@[simp] theorem driveTlr_dpk : (driveTlr s).dpk = s.dpk := rfl
@[simp] theorem driveTlr_xbar : (driveTlr s).xbar = s.xbar := rfl
@[simp] theorem driveTlr_tls : (driveTlr s).tls = s.tls := rfl
@[simp] theorem driveTlr_tlr : (driveTlr s).tlr = s.tlr := rfl
@[simp] theorem driveTlr_rxq : (driveTlr s).rxq = s.rxq := rfl
@[simp] theorem driveTlr_txq : (driveTlr s).txq = s.txq := rfl
@[simp] theorem driveTlr_started : (driveTlr s).started = s.started := rfl
@[simp] theorem driveTlr_pendingTags : (driveTlr s).pendingTags = s.pendingTags := rfl
@[simp] theorem driveTlr_linkHeld : (driveTlr s).linkHeld = s.linkHeld := rfl
@[simp] theorem driveTlr_sysHeld : (driveTlr s).sysHeld = s.sysHeld := rfl
@[simp] theorem driveTlr_lk : (driveTlr s).lk = s.lk := rfl
@[simp] theorem driveTlr_sy : (driveTlr s).sy = tlrAccept s (tlrOffer s s.sy) := rfl
@[simp] theorem driveTlr_agenda : (driveTlr s).agenda = s.agenda := rfl
@[simp] theorem driveTlr_stim : (driveTlr s).stim = s.stim := rfl
@[simp] theorem driveTlr_now : (driveTlr s).now = s.now := rfl

/-! ### A tick of the Link-Bus FSM and of the Depacketizer -/

@[simp] theorem lbfTick_cfg (st : LbfSt) : (lbfTick st s).cfg = s.cfg := rfl
@[simp] theorem lbfTick_pkt (st : LbfSt) : (lbfTick st s).pkt = s.pkt := rfl
@[simp] theorem lbfTick_dpk (st : LbfSt) : (lbfTick st s).dpk = s.dpk := rfl
@[simp] theorem lbfTick_xbar (st : LbfSt) : (lbfTick st s).xbar = s.xbar := rfl
@[simp] theorem lbfTick_tls (st : LbfSt) : (lbfTick st s).tls = s.tls := rfl
@[simp] theorem lbfTick_tlr (st : LbfSt) : (lbfTick st s).tlr = s.tlr := rfl
@[simp] theorem lbfTick_rxq (st : LbfSt) : (lbfTick st s).rxq = s.rxq := rfl
@[simp] theorem lbfTick_txq (st : LbfSt) : (lbfTick st s).txq = s.txq := rfl
@[simp] theorem lbfTick_started (st : LbfSt) : (lbfTick st s).started = s.started := rfl
@[simp] theorem lbfTick_pendingTags (st : LbfSt) : (lbfTick st s).pendingTags = s.pendingTags := rfl
@[simp] theorem lbfTick_linkHeld (st : LbfSt) : (lbfTick st s).linkHeld = s.linkHeld := rfl
@[simp] theorem lbfTick_sysHeld (st : LbfSt) : (lbfTick st s).sysHeld = s.sysHeld := rfl
@[simp] theorem lbfTick_sy (st : LbfSt) : (lbfTick st s).sy = s.sy := rfl
@[simp] theorem lbfTick_agenda (st : LbfSt) : (lbfTick st s).agenda = s.agenda := rfl
@[simp] theorem lbfTick_stim (st : LbfSt) : (lbfTick st s).stim = s.stim := rfl
@[simp] theorem lbfTick_now (st : LbfSt) : (lbfTick st s).now = s.now := rfl
@[simp] theorem lbfTick_lk (st : LbfSt) : (lbfTick st s).lk = lbfWires s s.lk := rfl
@[simp] theorem lbfTick_lbf (st : LbfSt) : (lbfTick st s).lbf = ⟨st,
  dwell s.cfg.tRx s.lbf.rxTime (inRxWindow s), dwell s.cfg.tTx s.lbf.txTime (inTxWindow s)⟩ := rfl

@[simp] theorem dpkTick_cfg : (dpkTick s).cfg = s.cfg := rfl
@[simp] theorem dpkTick_lbf : (dpkTick s).lbf = s.lbf := rfl
@[simp] theorem dpkTick_pkt : (dpkTick s).pkt = s.pkt := rfl
@[simp] theorem dpkTick_xbar : (dpkTick s).xbar = s.xbar := rfl
@[simp] theorem dpkTick_tls : (dpkTick s).tls = s.tls := rfl
@[simp] theorem dpkTick_tlr : (dpkTick s).tlr = s.tlr := rfl
@[simp] theorem dpkTick_rxq : (dpkTick s).rxq = s.rxq := rfl
@[simp] theorem dpkTick_txq : (dpkTick s).txq = s.txq := rfl
@[simp] theorem dpkTick_started : (dpkTick s).started = s.started := rfl
@[simp] theorem dpkTick_pendingTags : (dpkTick s).pendingTags = s.pendingTags := rfl
@[simp] theorem dpkTick_linkHeld : (dpkTick s).linkHeld = s.linkHeld := rfl
@[simp] theorem dpkTick_sysHeld : (dpkTick s).sysHeld = s.sysHeld := rfl
@[simp] theorem dpkTick_lk : (dpkTick s).lk = s.lk := rfl
@[simp] theorem dpkTick_agenda : (dpkTick s).agenda = s.agenda := rfl
@[simp] theorem dpkTick_stim : (dpkTick s).stim = s.stim := rfl
@[simp] theorem dpkTick_now : (dpkTick s).now = s.now := rfl
@[simp] theorem dpkTick_sy : (dpkTick s).sy = dpkAccept s (dpkOffer s s.sy) := rfl
@[simp] theorem dpkTick_dpk :
    (dpkTick s).dpk = { s.dpk with timer := nextTimer s, cnt := nextCnt s } := rfl

end Sys2Proof.Machine
end

