-- ==== Sys2Proof/Laws/Ops.lean ====
section
/-! SUPPORT. One lemma per shared operation that says what it can do, for later proofs to cite: the
ghost counters of a cross-domain FIFO stay in their ranges, what a raised cause and a reset leave,
what a channel operation leaves alone, and the ranges of the counters. -/

namespace Sys2Proof.Machine

/-! ### Cross-domain FIFOs (R131, R133) -/

theorem Afifo.wf_iff (q : Afifo) (depth : Nat) :
    q.wf depth = true ↔ q.vis ≤ q.items.length ∧ q.items.length + q.freed ≤ depth := by
  simp [Afifo.wf]

/-- A push with room keeps the ghost counters in their ranges. -/
theorem Afifo.push_wf {q : Afifo} {depth : Nat} (e : Word) (h : q.wf depth = true)
    (room : sinkReady q depth = true) : (q.push e).wf depth = true := by
  simp only [Afifo.wf_iff, sinkReady, decide_eq_true_eq, Afifo.push, List.length_append,
    List.length_singleton] at *
  omega

/-- A pop of a visible entry keeps the ghost counters in their ranges. -/
theorem Afifo.pop_wf {q : Afifo} {depth : Nat} (h : q.wf depth = true)
    (visible : sourceValid q = true) : q.pop.wf depth = true := by
  simp only [Afifo.wf_iff, sourceValid, decide_eq_true_eq, Afifo.pop, List.length_tail] at *
  omega

/-- A synchroniser step keeps the ghost counters in their ranges. -/
theorem Afifo.sync_wf {q : Afifo} {depth : Nat} (v f : Nat) (h : q.wf depth = true) :
    (q.sync v f).wf depth = true := by
  simp only [Afifo.wf_iff, Afifo.sync] at *
  omega

/-- A push next to a pop keeps the ghost counters in their ranges. -/
theorem Afifo.pop_push_wf {q : Afifo} {depth : Nat} (e : Word) (h : q.wf depth = true)
    (room : sinkReady q depth = true) (visible : sourceValid q = true) :
    (q.pop.push e).wf depth = true := by
  simp only [Afifo.wf_iff, sinkReady, sourceValid, decide_eq_true_eq, Afifo.pop, Afifo.push,
    List.length_append, List.length_tail, List.length_singleton] at *
  omega

theorem Afifo.empty_wf (depth : Nat) : Afifo.empty.wf depth = true := by
  simp [Afifo.wf_iff, Afifo.empty]

/-- A visible entry is the head of the FIFO. -/
theorem Afifo.items_of_visible {q : Afifo} {depth : Nat} (h : q.wf depth = true)
    (visible : sourceValid q = true) : ∃ w ws, q.items = w :: ws := by
  cases hq : q.items with
  | nil =>
    simp only [Afifo.wf_iff, sourceValid, decide_eq_true_eq, hq, List.length_nil] at *
    omega
  | cons w ws => exact ⟨w, ws, rfl⟩

/-! ### Causes and resets -/

/-- What a raised cause leaves: a framing error nothing, a timeout abort and an unrouted packet
their pulse and their count, a configuration error no state at all (R331 to R334, R339). -/
theorem raiseCause_next {c : Cause} {s t : State} (h : raiseCause c s = .next t) :
    (c = .framing ∧ t = s) ∨
    (c = .timeoutAbort ∧ t = { s with
      dpk := { s.dpk with st := .idle, hcnt := false, abortCount := s.dpk.abortCount + 1 }
      sy := { s.sy with abortEvt := true } }) ∨
    (c = .unrouted ∧ t = { s with
      xbar := { s.xbar with unroutedCount := s.xbar.unroutedCount + 1 }
      sy := { s.sy with unroutedEvt := true } }) := by
  cases c with
  | framing => exact .inl ⟨rfl, (Host.Outcome.next.inj h).symm⟩
  | timeoutAbort => exact .inr (.inl ⟨rfl, (Host.Outcome.next.inj h).symm⟩)
  | unrouted => exact .inr (.inr ⟨rfl, (Host.Outcome.next.inj h).symm⟩)
  | configError => exact absurd h (by simp [raiseCause])

/-- The reset of the link domain (R318). -/
theorem resetLinkDomain_eq (s : State) : resetLinkDomain s = { s with
    lk := { LinkWires.off with rst := true }
    lbf := Lbf.reset s.cfg
    rxq := if s.sysHeld then .empty else s.rxq
    txq := if s.sysHeld then .empty else s.txq } := by
  obtain ⟨_, _, _, _, _, _, _, _, _, _, _, _, sysHeld, _, _, _, _, _⟩ := s
  cases sysHeld <;> rfl

/-- The reset of the system domain (R319). -/
theorem resetSysDomain_eq (s : State) : resetSysDomain s = { s with
    sy := { SysWires.off with rst := true }
    pkt := Pkt.reset
    dpk := Dpk.reset s.cfg
    xbar := Xbar.reset
    tls := Tls.reset
    tlr := Tlr.reset
    rxq := if s.linkHeld then .empty else s.rxq
    txq := if s.linkHeld then .empty else s.txq } := by
  obtain ⟨_, _, _, _, _, _, _, _, _, _, _, linkHeld, _, _, _, _, _, _⟩ := s
  cases linkHeld <;> rfl

/-! ### A channel operation changes wires alone -/

section
variable (s : State) (c : ChanId) (x : Bool)

@[simp] theorem State.setXfer_cfg : (s.setXfer c x).cfg = s.cfg := by cases c <;> rfl
@[simp] theorem State.setXfer_lbf : (s.setXfer c x).lbf = s.lbf := by cases c <;> rfl
@[simp] theorem State.setXfer_pkt : (s.setXfer c x).pkt = s.pkt := by cases c <;> rfl
@[simp] theorem State.setXfer_dpk : (s.setXfer c x).dpk = s.dpk := by cases c <;> rfl
@[simp] theorem State.setXfer_xbar : (s.setXfer c x).xbar = s.xbar := by cases c <;> rfl
@[simp] theorem State.setXfer_tls : (s.setXfer c x).tls = s.tls := by cases c <;> rfl
@[simp] theorem State.setXfer_tlr : (s.setXfer c x).tlr = s.tlr := by cases c <;> rfl
@[simp] theorem State.setXfer_rxq : (s.setXfer c x).rxq = s.rxq := by cases c <;> rfl
@[simp] theorem State.setXfer_txq : (s.setXfer c x).txq = s.txq := by cases c <;> rfl
@[simp] theorem State.setXfer_started : (s.setXfer c x).started = s.started := by cases c <;> rfl
@[simp] theorem State.setXfer_pendingTags : (s.setXfer c x).pendingTags = s.pendingTags := by
  cases c <;> rfl
@[simp] theorem State.setXfer_linkHeld : (s.setXfer c x).linkHeld = s.linkHeld := by
  cases c <;> rfl
@[simp] theorem State.setXfer_sysHeld : (s.setXfer c x).sysHeld = s.sysHeld := by cases c <;> rfl
@[simp] theorem State.setXfer_agenda : (s.setXfer c x).agenda = s.agenda := by cases c <;> rfl
@[simp] theorem State.setXfer_stim : (s.setXfer c x).stim = s.stim := by cases c <;> rfl
@[simp] theorem State.setXfer_now : (s.setXfer c x).now = s.now := by cases c <;> rfl
@[simp] theorem State.setXfer_lk_rst : (s.setXfer c x).lk.rst = s.lk.rst := by cases c <;> rfl
@[simp] theorem State.setXfer_sy_rst : (s.setXfer c x).sy.rst = s.sy.rst := by cases c <;> rfl
@[simp] theorem State.setXfer_sy_pm : (s.setXfer c x).sy.pm = s.sy.pm := by cases c <;> rfl
@[simp] theorem State.setXfer_dpkSink_pay :
    (s.setXfer c x).sy.dpkSink.pay = s.sy.dpkSink.pay := by cases c <;> rfl

end

/-! ### Channels of an indexed family -/

theorem portChan_eq (l : List (Chan UpWord)) (i : Nat) : portChan l i = l[i]?.getD chanOff :=
  List.getD_eq_getElem?_getD

/-- A channel that does not exist offers and accepts nothing. -/
theorem portChan_of_length_le {l : List (Chan UpWord)} {i : Nat} (h : l.length ≤ i) :
    portChan l i = chanOff := by
  simp [portChan_eq, List.getElem?_eq_none h]

theorem portChan_modify_self {l : List (Chan UpWord)} {i : Nat} (f : Chan UpWord → Chan UpWord)
    (h : i < l.length) : portChan (l.modify i f) i = f (portChan l i) := by
  simp [portChan_eq, List.getElem?_eq_getElem h]

theorem portChan_modify_ne {l : List (Chan UpWord)} {i j : Nat} (f : Chan UpWord → Chan UpWord)
    (h : i ≠ j) : portChan (l.modify i f) j = portChan l j := by
  simp [portChan_eq, h]

/-! ### Ranges of the counters -/

/-- A dwell counter stays in its range (R27, R28). -/
theorem dwell_le {limit time : Nat} (inside : Bool) (h : time ≤ limit - 1) :
    dwell limit time inside ≤ limit - 1 := by
  unfold dwell
  split
  · exact h
  · split <;> omega

/-- The Depacketizer's timer stays in its range (R34). -/
theorem nextTimer_le {s : State} (h : s.dpk.timer ≤ s.cfg.depackTimeout - 1) :
    nextTimer s ≤ s.cfg.depackTimeout - 1 := by
  unfold nextTimer
  split
  · exact le_rfl
  · split <;> omega

/-- A grant that moves goes to a port that exists (R35). -/
theorem nextGrant_lt {s : State} {g : Nat} (h : g < s.cfg.nPorts) :
    nextGrant s g < s.cfg.nPorts := by
  unfold nextGrant
  cases hf : (portsAfter s.cfg.nPorts g).find? (outValid s) with
  | none => exact h
  | some j =>
    obtain ⟨k, -, rfl⟩ := List.mem_map.1 (List.mem_of_find?_eq_some hf)
    exact Nat.mod_lt _ (by omega)

/-- A lane makes one word or two. -/
theorem laneWords_cases (be : ByteEnable) : laneWords be = 1 ∨ laneWords be = 2 := by
  unfold laneWords
  split
  · exact .inl rfl
  · exact .inr rfl

/-- A FIFO that holds a lane holds a word. -/
theorem queuedWords_pos {q : List LaneEntry} (h : q ≠ []) : 1 ≤ queuedWords q := by
  cases q with
  | nil => exact absurd rfl h
  | cons l q => rcases laneWords_cases l.be with e | e <;> simp only [queuedWords, e] <;> omega

theorem queuedWords_append (q r : List LaneEntry) :
    queuedWords (q ++ r) = queuedWords q + queuedWords r := by
  induction q with
  | nil => simp [queuedWords]
  | cons l q ih => simp only [List.cons_append, queuedWords, ih]; omega

/-- The TLP Sender's head lane has an upper half exactly if it makes two words (R263). -/
theorem headHasUpper_cons {s : State} {l : LaneEntry} {q : List LaneEntry}
    (h : s.tls.q = l :: q) : headHasUpper s = (laneWords l.be == 2) := by
  simp [headHasUpper, h]

end Sys2Proof.Machine
end

