-- ==== Sys2Proof/Laws/PerInstr.lean ====
section
/-! SUPPORT. One lemma per operation on its syntax: `wellFormed` says exactly that the word the
operation encodes to is none of the unreachable words of R110. -/

namespace Sys2Proof.Laws

/-- The word a site presents is none of the unreachable control words of R110. -/
def reachableWord : Site × Raw → Bool
  | (site, .bits b) => !unreachable site b
  | (_, .frame _) => true

/-- An operation is well formed exactly when the word it encodes to is reachable. -/
def EncodingReachable.Statement (i : Instr) : Prop := wellFormed i = reachableWord (encode i)

theorem EncodingReachable.lpW0 :
    EncodingReachable.Statement .lpW0 := by
  rfl

theorem EncodingReachable.lpW1 (reserved : BitVec 24) (dst : Tag) :
    EncodingReachable.Statement (.lpW1 reserved dst) := by
  rfl

theorem EncodingReachable.lpW2 (length : Word) :
    EncodingReachable.Statement (.lpW2 length) := by
  rfl

theorem EncodingReachable.lpPayload (data : Word) :
    EncodingReachable.Statement (.lpPayload data) := by
  rfl

theorem EncodingReachable.chIdle (c : ChanId) (r : Bool) :
    EncodingReachable.Statement (.chIdle c r) := by
  rfl

theorem EncodingReachable.chStall (c : ChanId) :
    EncodingReachable.Statement (.chStall c) := by
  rfl

theorem EncodingReachable.chXfer (c : ChanId) :
    EncodingReachable.Statement (.chXfer c) := by
  rfl

theorem EncodingReachable.fifoNop (q : FifoId) :
    EncodingReachable.Statement (.fifoNop q) := by
  rfl

theorem EncodingReachable.fifoPush (q : FifoId) :
    EncodingReachable.Statement (.fifoPush q) := by
  rfl

theorem EncodingReachable.fifoPop (q : FifoId) :
    EncodingReachable.Statement (.fifoPop q) := by
  rfl

theorem EncodingReachable.fifoPushPop (q : FifoId) :
    EncodingReachable.Statement (.fifoPushPop q) := by
  rfl

theorem EncodingReachable.afifoSync (q : CrossFifo) (v f : Nat) :
    EncodingReachable.Statement (.afifoSync q v f) := by
  rfl

theorem EncodingReachable.lbfRxStayNotx (r t : Bool) :
    EncodingReachable.Statement (.lbfRxStayNotx r t) := by
  rfl

theorem EncodingReachable.lbfRxStayBusy :
    EncodingReachable.Statement .lbfRxStayBusy := by
  rfl

theorem EncodingReachable.lbfRxYield (t : Bool) :
    EncodingReachable.Statement (.lbfRxYield t) := by
  rfl

theorem EncodingReachable.lbfRxTimeout :
    EncodingReachable.Statement .lbfRxTimeout := by
  rfl

theorem EncodingReachable.lbfR2t (w r t : Bool) :
    EncodingReachable.Statement (.lbfR2t w r t) := by
  rfl

theorem EncodingReachable.lbfTxStayNorx (w t : Bool) :
    EncodingReachable.Statement (.lbfTxStayNorx w t) := by
  rfl

theorem EncodingReachable.lbfTxStayBusy :
    EncodingReachable.Statement .lbfTxStayBusy := by
  rfl

theorem EncodingReachable.lbfTxYield (t : Bool) :
    EncodingReachable.Statement (.lbfTxYield t) := by
  rfl

theorem EncodingReachable.lbfTxTimeout :
    EncodingReachable.Statement .lbfTxTimeout := by
  rfl

theorem EncodingReachable.lbfT2r (w r t : Bool) :
    EncodingReachable.Statement (.lbfT2r w r t) := by
  rfl

theorem EncodingReachable.pktIdleWait (h1 h0 l r : Bool) :
    EncodingReachable.Statement (.pktIdleWait h1 h0 l r) := by
  cases h1 <;> cases h0 <;> rfl

theorem EncodingReachable.pktStart (h1 h0 l r : Bool) :
    EncodingReachable.Statement (.pktStart h1 h0 l r) := by
  cases h1 <;> cases h0 <;> rfl

theorem EncodingReachable.pktHdrStall (h1 h0 v l : Bool) :
    EncodingReachable.Statement (.pktHdrStall h1 h0 v l) := by
  cases h1 <;> cases h0 <;> rfl

theorem EncodingReachable.pktHdrW0 (v l : Bool) :
    EncodingReachable.Statement (.pktHdrW0 v l) := by
  rfl

theorem EncodingReachable.pktHdrW1 (v l : Bool) :
    EncodingReachable.Statement (.pktHdrW1 v l) := by
  rfl

theorem EncodingReachable.pktHdrW2 (v l : Bool) :
    EncodingReachable.Statement (.pktHdrW2 v l) := by
  rfl

theorem EncodingReachable.pktCopyIdle (h1 h0 l r : Bool) :
    EncodingReachable.Statement (.pktCopyIdle h1 h0 l r) := by
  cases h1 <;> cases h0 <;> rfl

theorem EncodingReachable.pktCopyStall (h1 h0 l : Bool) :
    EncodingReachable.Statement (.pktCopyStall h1 h0 l) := by
  cases h1 <;> cases h0 <;> rfl

theorem EncodingReachable.pktCopyXfer (h1 h0 : Bool) :
    EncodingReachable.Statement (.pktCopyXfer h1 h0) := by
  cases h1 <;> cases h0 <;> rfl

theorem EncodingReachable.pktCopyLast (h1 h0 : Bool) :
    EncodingReachable.Statement (.pktCopyLast h1 h0) := by
  cases h1 <;> cases h0 <;> rfl

theorem EncodingReachable.dpkIdleWait (t h p l r : Bool) :
    EncodingReachable.Statement (.dpkIdleWait t h p l r) := by
  cases t <;> cases h <;> rfl

theorem EncodingReachable.dpkIdleDrop (t h l r : Bool) :
    EncodingReachable.Statement (.dpkIdleDrop t h l r) := by
  cases t <;> cases h <;> rfl

theorem EncodingReachable.dpkIdleSync (t h l r : Bool) :
    EncodingReachable.Statement (.dpkIdleSync t h l r) := by
  cases t <;> cases h <;> rfl

theorem EncodingReachable.dpkHdrWait (h p l r : Bool) :
    EncodingReachable.Statement (.dpkHdrWait h p l r) := by
  rfl

theorem EncodingReachable.dpkHdrDst (p l r : Bool) :
    EncodingReachable.Statement (.dpkHdrDst p l r) := by
  rfl

theorem EncodingReachable.dpkHdrLen (p l r : Bool) :
    EncodingReachable.Statement (.dpkHdrLen p l r) := by
  rfl

theorem EncodingReachable.dpkHdrAbort (h v p l r : Bool) :
    EncodingReachable.Statement (.dpkHdrAbort h v p l r) := by
  rfl

theorem EncodingReachable.dpkCopyWait (h p l r : Bool) :
    EncodingReachable.Statement (.dpkCopyWait h p l r) := by
  rfl

theorem EncodingReachable.dpkCopyStall (h p l : Bool) :
    EncodingReachable.Statement (.dpkCopyStall h p l) := by
  rfl

theorem EncodingReachable.dpkCopyXfer (h p : Bool) :
    EncodingReachable.Statement (.dpkCopyXfer h p) := by
  rfl

theorem EncodingReachable.dpkCopyLast (h p : Bool) :
    EncodingReachable.Statement (.dpkCopyLast h p) := by
  rfl

theorem EncodingReachable.dpkCopyAbort (h v p l r : Bool) :
    EncodingReachable.Statement (.dpkCopyAbort h v p l r) := by
  rfl

theorem EncodingReachable.xdIdle (h l r : Bool) :
    EncodingReachable.Statement (.xdIdle h l r) := by
  rfl

theorem EncodingReachable.xdRouteStall (l : Bool) :
    EncodingReachable.Statement (.xdRouteStall l) := by
  rfl

theorem EncodingReachable.xdRouteXfer (l : Bool) :
    EncodingReachable.Statement (.xdRouteXfer l) := by
  rfl

theorem EncodingReachable.xdDropWord (r : Bool) :
    EncodingReachable.Statement (.xdDropWord r) := by
  rfl

theorem EncodingReachable.xdDropLast (r : Bool) :
    EncodingReachable.Statement (.xdDropLast r) := by
  rfl

theorem EncodingReachable.xaPark (l r : Bool) :
    EncodingReachable.Statement (.xaPark l r) := by
  rfl

theorem EncodingReachable.xaSwitchIdle (l r : Bool) :
    EncodingReachable.Statement (.xaSwitchIdle l r) := by
  rfl

theorem EncodingReachable.xaWait (l r o : Bool) :
    EncodingReachable.Statement (.xaWait l r o) := by
  rfl

theorem EncodingReachable.xaStall (l o : Bool) :
    EncodingReachable.Statement (.xaStall l o) := by
  rfl

theorem EncodingReachable.xaXfer (o : Bool) :
    EncodingReachable.Statement (.xaXfer o) := by
  rfl

theorem EncodingReachable.xaEndPark :
    EncodingReachable.Statement .xaEndPark := by
  rfl

theorem EncodingReachable.xaEndSwitch :
    EncodingReachable.Statement .xaEndSwitch := by
  rfl

theorem EncodingReachable.tlsFillWait (l f h u w r : Bool) :
    EncodingReachable.Statement (.tlsFillWait l f h u w r) := by
  rfl

theorem EncodingReachable.tlsFillPush (h u w r : Bool) :
    EncodingReachable.Statement (.tlsFillPush h u w r) := by
  rfl

theorem EncodingReachable.tlsFillCloseLast (f h u w r : Bool) :
    EncodingReachable.Statement (.tlsFillCloseLast f h u w r) := by
  rfl

theorem EncodingReachable.tlsFillCloseFull (h u w r : Bool) :
    EncodingReachable.Statement (.tlsFillCloseFull h u w r) := by
  rfl

theorem EncodingReachable.tlsSendStall (v l f h u w : Bool) :
    EncodingReachable.Statement (.tlsSendStall v l f h u w) := by
  cases h <;> cases u <;> cases w <;> rfl

theorem EncodingReachable.tlsSendLowMore (v l f : Bool) :
    EncodingReachable.Statement (.tlsSendLowMore v l f) := by
  rfl

theorem EncodingReachable.tlsSendLowPop (v l f : Bool) :
    EncodingReachable.Statement (.tlsSendLowPop v l f) := by
  rfl

theorem EncodingReachable.tlsSendHighPop (v l f u : Bool) :
    EncodingReachable.Statement (.tlsSendHighPop v l f u) := by
  cases u <;> rfl

theorem EncodingReachable.tlsSendLast (v l f h u : Bool) :
    EncodingReachable.Statement (.tlsSendLast v l f h u) := by
  cases h <;> cases u <;> rfl

theorem EncodingReachable.tlrIdle (h l r : Bool) :
    EncodingReachable.Statement (.tlrIdle h l r) := by
  rfl

theorem EncodingReachable.tlrTakeLow (r : Bool) :
    EncodingReachable.Statement (.tlrTakeLow r) := by
  rfl

theorem EncodingReachable.tlrSingleStall :
    EncodingReachable.Statement .tlrSingleStall := by
  rfl

theorem EncodingReachable.tlrSingleEmit :
    EncodingReachable.Statement .tlrSingleEmit := by
  rfl

theorem EncodingReachable.tlrPairStall (l : Bool) :
    EncodingReachable.Statement (.tlrPairStall l) := by
  rfl

theorem EncodingReachable.tlrPairEmit (l : Bool) :
    EncodingReachable.Statement (.tlrPairEmit l) := by
  rfl

theorem EncodingReachable.resetLink :
    EncodingReachable.Statement .resetLink := by
  rfl

theorem EncodingReachable.resetSys :
    EncodingReachable.Statement .resetSys := by
  rfl

theorem EncodingReachable.xbarRegisterPort (t : Tag) :
    EncodingReachable.Statement (.xbarRegisterPort t) := by
  rfl

end Sys2Proof.Laws
end

