-- ==== Sys2Proof/Laws/Select.lean ====
section
/-! SUPPORT. What each site selects, in terms of the registers and the wires: later proofs cite these
and unfold neither the control words nor the decoder. -/

namespace Sys2Proof.Machine

/-- The decoder on the bits of a channel. -/
theorem decode_ch (c : ChanId) (v r : Bool) :
    decode (.ch c) (.bits [v, r]) =
      .ok (if v then (if r then .chXfer c else .chStall c) else .chIdle c r) := by
  cases v <;> cases r <;> rfl

/-- The decoder on the bits of a FIFO. -/
theorem decode_fq (q : FifoId) (push pop : Bool) :
    decode (.fq q) (.bits [push, pop]) =
      .ok (if push then (if pop then .fifoPushPop q else .fifoPush q)
        else if pop then .fifoPop q else .fifoNop q) := by
  cases push <;> cases pop <;> rfl

/-- What a FIFO selects, by its push and its pop. -/
def fifoOp (q : FifoId) (push pop : Bool) : Instr :=
  if push then (if pop then .fifoPushPop q else .fifoPush q)
  else if pop then .fifoPop q else .fifoNop q

theorem selects_ch (s : State) (c : ChanId) :
    selects s (.ch c) = .ok (if (s.handshakeOf c).1 then
      (if (s.handshakeOf c).2 then .chXfer c else .chStall c)
      else .chIdle c (s.handshakeOf c).2) :=
  decode_ch c _ _

theorem selects_rxq (s : State) :
    selects s (.fq .rxq) = .ok (fifoOp .rxq
      (s.lk.rxqSink.xfer && sinkReady s.rxq s.cfg.rxqDepth)
      (s.sy.dpkSink.xfer && sourceValid s.rxq)) :=
  decode_fq .rxq _ _

theorem selects_txq (s : State) :
    selects s (.fq .txq) = .ok (fifoOp .txq
      (s.sy.pktSource.xfer && sinkReady s.txq s.cfg.txqDepth)
      (s.lk.txqSource.xfer && sourceValid s.txq)) :=
  decode_fq .txq _ _

theorem selects_sync (s : State) (q : CrossFifo) (v f : Nat) :
    selects s (.sync q v f) = .ok (.afifoSync q v f) := rfl

theorem selects_regPort (s : State) (t : Tag) :
    selects s (.regPort t) = .ok (.xbarRegisterPort t) := rfl

theorem selects_rstLink (s : State) (h : s.lk.rst = true) :
    selects s .rstLink = .ok .resetLink := by
  simp [selects, controlWord, h, decode, decodeBits, decodeReset, orNoPattern, unreachable]

theorem selects_rstSys (s : State) (h : s.sy.rst = true) :
    selects s .rstSys = .ok .resetSys := by
  simp [selects, controlWord, h, decode, decodeBits, decodeReset, orNoPattern, unreachable]

theorem selects_lp_w0 (s : State) (h : s.sy.dpkSink.pay = preamble) :
    selects s (.lp .w0) = .ok .lpW0 := by
  simp [selects, controlWord, h, decode, decodeFrame, orNoPattern]

/-- The Link-Bus FSM always selects an operation. -/
theorem selects_lbf (s : State) :
    selects s .lbf = .ok (match s.lbf.st with
      | .receive =>
        if wantsTransmit s then
          if wantsReceive s then if rxMax s then .lbfRxTimeout else .lbfRxStayBusy
          else .lbfRxYield (rxMax s)
        else .lbfRxStayNotx (wantsReceive s) (rxMax s)
      | .receiveToTransmit => .lbfR2t (wantsTransmit s) (wantsReceive s) (rxMax s)
      | .transmit =>
        if wantsReceive s then
          if wantsTransmit s then if txMax s then .lbfTxTimeout else .lbfTxStayBusy
          else .lbfTxYield (txMax s)
        else .lbfTxStayNorx (wantsTransmit s) (txMax s)
      | .transmitToReceive => .lbfT2r (wantsTransmit s) (wantsReceive s) (txMax s)) := by
  have key : ∀ (st : LbfSt) (w r a b : Bool),
      decode .lbf (.bits (st.code ++ [w, r, match st with
        | .receive | .receiveToTransmit => a | .transmit | .transmitToReceive => b])) =
      .ok (match st with
      | .receive =>
        if w then if r then if a then .lbfRxTimeout else .lbfRxStayBusy else .lbfRxYield a
        else .lbfRxStayNotx r a
      | .receiveToTransmit => .lbfR2t w r a
      | .transmit =>
        if r then if w then if b then .lbfTxTimeout else .lbfTxStayBusy else .lbfTxYield b
        else .lbfTxStayNorx w b
      | .transmitToReceive => .lbfT2r w r b) := by
    intro st w r a b
    cases st <;> cases w <;> cases r <;> cases a <;> cases b <;> rfl
  exact key s.lbf.st _ _ (rxMax s) (txMax s)

/-- The Packetizer selects an operation where `pkt.hidx` is 0 outside `INSERT_HEADER` (R29). -/
theorem selects_pkt (s : State) (h : s.pkt.st ≠ .insertHeader → s.pkt.hidx = 0) :
    selects s .pkt = .ok (
      let v := s.sy.mTx.valid
      let l := s.sy.mTx.pay.last
      let r := s.sy.pktSource.ready
      match s.pkt.st with
      | .idle => if v then .pktStart false false l r else .pktIdleWait false false l r
      | .insertHeader =>
        if r then
          if s.pkt.hidx = 0 then .pktHdrW0 v l
          else if s.pkt.hidx = 1 then .pktHdrW1 v l else .pktHdrW2 v l
        else .pktHdrStall (s.pkt.hidx == 2) (s.pkt.hidx == 1) v l
      | .copy =>
        if v then
          if r then if l then .pktCopyLast false false else .pktCopyXfer false false
          else .pktCopyStall false false l
        else .pktCopyIdle false false l r) := by
  have key : ∀ (st : PktSt) (x : Fin 3) (v l r : Bool), (st ≠ .insertHeader → x = 0) →
      decode .pkt (.bits (st.code ++ hidxCode x ++ [v, l, r])) = .ok (
      match st with
      | .idle => if v then .pktStart false false l r else .pktIdleWait false false l r
      | .insertHeader =>
        if r then if x = 0 then .pktHdrW0 v l else if x = 1 then .pktHdrW1 v l else .pktHdrW2 v l
        else .pktHdrStall (x == 2) (x == 1) v l
      | .copy =>
        if v then if r then if l then .pktCopyLast false false else .pktCopyXfer false false
          else .pktCopyStall false false l
        else .pktCopyIdle false false l r) := by
    intro st x v l r h
    cases st
    case insertHeader =>
      have : x = 0 ∨ x = 1 ∨ x = 2 := by omega
      rcases this with rfl | rfl | rfl <;> cases v <;> cases l <;> cases r <;> rfl
    all_goals
      obtain rfl := h (by decide)
      cases v <;> cases l <;> cases r <;> rfl
  exact key s.pkt.st s.pkt.hidx _ _ _ h

/-- The Depacketizer always selects an operation. -/
theorem selects_dpk (s : State) :
    selects s .dpk = .ok (
      let v := s.sy.dpkSink.valid
      let h := s.dpk.hcnt
      let p := s.sy.pm
      let l := dpkLastWord s
      let r := s.sy.dpkSource.ready
      match s.dpk.st with
      | .idle =>
        if v then if p then .dpkIdleSync false h l r else .dpkIdleDrop false h l r
        else .dpkIdleWait false h p l r
      | .receiveHeader =>
        if timerDone s then .dpkHdrAbort h v p l r
        else if v then if h then .dpkHdrLen p l r else .dpkHdrDst p l r
        else .dpkHdrWait h p l r
      | .copy =>
        if timerDone s then .dpkCopyAbort h v p l r
        else if v then
          if r then if l then .dpkCopyLast h p else .dpkCopyXfer h p else .dpkCopyStall h p l
        else .dpkCopyWait h p l r) := by
  have key : ∀ (st : DpkSt) (t h v p l r : Bool),
      decode .dpk (.bits (st.code ++ [st != .idle && t, h, v, p, l, r])) = .ok (
      match st with
      | .idle =>
        if v then if p then .dpkIdleSync false h l r else .dpkIdleDrop false h l r
        else .dpkIdleWait false h p l r
      | .receiveHeader =>
        if st != .idle && t then .dpkHdrAbort h v p l r
        else if v then if h then .dpkHdrLen p l r else .dpkHdrDst p l r
        else .dpkHdrWait h p l r
      | .copy =>
        if st != .idle && t then .dpkCopyAbort h v p l r
        else if v then
          if r then if l then .dpkCopyLast h p else .dpkCopyXfer h p else .dpkCopyStall h p l
        else .dpkCopyWait h p l r) := by
    intro st t h v p l r
    cases st <;> cases t <;> cases h <;> cases v <;> cases p <;> cases l <;> cases r <;> rfl
  exact key s.dpk.st (s.dpk.timer == 0) _ _ _ _ _

/-- The dispatch half always selects an operation. -/
theorem selects_xd (s : State) :
    selects s .xd = .ok (
      let l := s.sy.dpkSource.pay.last
      let r := hitReady s
      if s.sy.dpkSource.valid then
        if noHit s then if l then .xdDropLast r else .xdDropWord r
        else if r then .xdRouteXfer l else .xdRouteStall l
      else .xdIdle (!noHit s) l r) := by
  have key : ∀ v h l r : Bool, decode .xd (.bits [v, !h, l, r]) = .ok (
      if v then if h then if l then .xdDropLast r else .xdDropWord r
        else if r then .xdRouteXfer l else .xdRouteStall l
      else .xdIdle (!h) l r) := by decide
  exact key _ _ _ _

/-- The arbiter half always selects an operation. -/
theorem selects_xa (s : State) :
    selects s .xa = .ok (
      let v := outValid s s.xbar.grant
      let l := (portChan s.sy.outPorts s.xbar.grant).pay.last
      let r := s.sy.mTx.ready
      let o := otherRequests s
      if v then
        if r then if l then if o then .xaEndSwitch else .xaEndPark else .xaXfer o
        else .xaStall l o
      else if s.xbar.locked then .xaWait l r o
      else if o then .xaSwitchIdle l r else .xaPark l r) := by
  have key : ∀ v k l r o : Bool, decode .xa (.bits [v || k, v, l, r, o]) = .ok (
      if v then if r then if l then if o then .xaEndSwitch else .xaEndPark else .xaXfer o
        else .xaStall l o
      else if k then .xaWait l r o
      else if o then .xaSwitchIdle l r else .xaPark l r) := by decide
  exact key _ _ _ _ _

/-- The TLP Sender selects an operation outside the unreachable word of R275. -/
theorem selects_tls (s : State)
    (h : s.tls.st = .send → s.tls.half = false → headHasUpper s = true → tlsLastWord s = false) :
    selects s .tls = .ok (
      let v := s.sy.tlpTxIn.valid
      let l := s.sy.tlpTxIn.pay.last
      let f := fillsQueue s
      let k := s.tls.half
      let u := headHasUpper s
      let w := tlsLastWord s
      let r := (portChan s.sy.outPorts s.cfg.tlpPort).ready
      match s.tls.st with
      | .fill =>
        if v then
          if l then .tlsFillCloseLast f k u w r
          else if f then .tlsFillCloseFull k u w r else .tlsFillPush k u w r
        else .tlsFillWait l f k u w r
      | .send =>
        if r then
          if w then .tlsSendLast v l f k u
          else if k then .tlsSendHighPop v l f u
          else if u then .tlsSendLowMore v l f else .tlsSendLowPop v l f
        else .tlsSendStall v l f k u w) := by
  have key : ∀ (st : TlsSt) (v l f k u w r : Bool),
      (st = .send → k = false → u = true → w = false) →
      decode .tls (.bits [st == .send, v, l, f, k, u, w, r]) = .ok (
      match st with
      | .fill =>
        if v then
          if l then .tlsFillCloseLast f k u w r
          else if f then .tlsFillCloseFull k u w r else .tlsFillPush k u w r
        else .tlsFillWait l f k u w r
      | .send =>
        if r then
          if w then .tlsSendLast v l f k u
          else if k then .tlsSendHighPop v l f u
          else if u then .tlsSendLowMore v l f else .tlsSendLowPop v l f
        else .tlsSendStall v l f k u w) := by
    intro st v l f k u w r h
    cases st <;> cases k <;> cases u <;> cases w <;>
      first
        | (cases v <;> cases l <;> cases f <;> cases r <;> rfl)
        | exact absurd (h rfl rfl rfl) (by decide)
  exact key s.tls.st _ _ _ _ _ _ _ h

/-- The TLP Receiver always selects an operation. -/
theorem selects_tlr (s : State) :
    selects s .tlr = .ok (
      let i := portChan s.sy.inPorts s.cfg.tlpPort
      let l := i.pay.last
      let r := s.sy.tlpRxOut.ready
      if i.valid then
        if s.tlr.haveLow then if r then .tlrPairEmit l else .tlrPairStall l
        else if l then if r then .tlrSingleEmit else .tlrSingleStall
        else .tlrTakeLow r
      else .tlrIdle s.tlr.haveLow l r) := by
  have key : ∀ h v l r : Bool, decode .tlr (.bits [h, v, l, r]) = .ok (
      if v then if h then if r then .tlrPairEmit l else .tlrPairStall l
        else if l then if r then .tlrSingleEmit else .tlrSingleStall
        else .tlrTakeLow r
      else .tlrIdle h l r) := by decide
  exact key _ _ _ _

end Sys2Proof.Machine
end

