-- ==== Sys2Proof/Laws/Step.lean ====
section
/-! SUPPORT. What a step can do, said once: it opens an event, registers a port's turn, or executes
the operation that the next site selects. -/

namespace Sys2Proof.Machine

/-- If a step answers a next state, it opened an event or executed one selected operation. -/
theorem step_next {s t : State} (h : step s = .next t) :
    (s.agenda = [] ∧ openNext s = .next t) ∨
    ∃ site rest i, s.agenda = site :: rest ∧ selects s site = .ok i ∧
      exec i (s.setAgenda rest) = .next t := by
  unfold step at h
  cases ha : s.agenda with
  | nil => simp only [ha] at h; exact .inl ⟨rfl, h⟩
  | cons site rest =>
    simp only [ha] at h
    cases hd : decode site (controlWord s site) with
    | ok i => simp only [hd] at h; exact .inr ⟨site, rest, i, rfl, hd, h⟩
    | error why => simp only [hd] at h; exact absurd h (by simp)

/-- If opening answers a next state, it took the next tag to register, or opened a tick under an
admitted configuration, or a synchroniser step. -/
theorem openNext_next {s t : State} (h : openNext s = .next t) :
    (∃ tag ts, s.started = false ∧ s.pendingTags = tag :: ts ∧
      t = { s with pendingTags := ts, agenda := [.regPort tag] }) ∨
    ((s.started = true ∨ s.pendingTags = []) ∧
      ((∃ link sys, nextEvent s = .tick link sys ∧ s.cfg.admitted = true ∧
        t = openTick { s with stim := s.stim.tail, now := s.now + 1 } link sys) ∨
      ∃ q v f, nextEvent s = .sync q v f ∧
        t = { s with stim := s.stim.tail, now := s.now + 1, agenda := [.sync q v f] })) := by
  have opened : ∀ e, openEvent { s with stim := s.stim.tail, now := s.now + 1 } e = .next t →
      nextEvent s = e →
      (∃ link sys, nextEvent s = .tick link sys ∧ s.cfg.admitted = true ∧
        t = openTick { s with stim := s.stim.tail, now := s.now + 1 } link sys) ∨
      ∃ q v f, nextEvent s = .sync q v f ∧
        t = { s with stim := s.stim.tail, now := s.now + 1, agenda := [.sync q v f] } := by
    intro e he hn
    cases e with
    | tick link sys =>
      simp only [openEvent] at he
      split at he
      · exact .inl ⟨link, sys, hn, by assumption, (Host.Outcome.next.inj he).symm⟩
      · exact absurd he (by simp [raiseCause])
    | sync q v f => exact .inr ⟨q, v, f, hn, (Host.Outcome.next.inj he).symm⟩
  unfold openNext at h
  split at h
  · rename_i tag ts hs hp
    exact .inl ⟨tag, ts, hs, hp, (Host.Outcome.next.inj h).symm⟩
  · rename_i hne
    refine .inr ⟨?_, opened _ h rfl⟩
    cases hs : s.started with
    | true => exact .inl rfl
    | false =>
      cases hp : s.pendingTags with
      | nil => exact .inr rfl
      | cons tag ts => exact absurd hp (hne tag ts hs)

/-! ### Opening a tick changes wires and bookkeeping alone -/

section
variable (s : State) (link : Option LinkIn) (sys : Option SysIn)

theorem holdResets_eq : holdResets s link sys =
    { s with linkHeld := (holdResets s link sys).linkHeld
             sysHeld := (holdResets s link sys).sysHeld } := by
  unfold holdResets
  split <;> rfl

theorem openTick_eq : openTick s link sys =
    { s with linkHeld := (holdResets s link sys).linkHeld
             sysHeld := (holdResets s link sys).sysHeld
             started := true
             lk := (openTick s link sys).lk
             sy := (openTick s link sys).sy
             agenda := (openTick s link sys).agenda } := by
  unfold openTick
  rw [holdResets_eq]
  rfl

@[simp] theorem openTick_cfg : (openTick s link sys).cfg = s.cfg := by rw [openTick_eq]
@[simp] theorem openTick_regs : (openTick s link sys).regs = s.regs := by
  rw [openTick_eq]
  rfl
@[simp] theorem openTick_started : (openTick s link sys).started = true := by rw [openTick_eq]
@[simp] theorem openTick_pendingTags :
    (openTick s link sys).pendingTags = s.pendingTags := by rw [openTick_eq]
@[simp] theorem openTick_lk : (openTick s link sys).lk = linkWiresOf s link := by
  cases link <;> rfl
@[simp] theorem openTick_sy : (openTick s link sys).sy = sysWiresOf s sys := by
  cases sys <;> rfl

end

/-- The sites of a tick: a reset site with its input at 1, or the channels and components of the
domain, and the two cross-domain FIFOs. -/
theorem mem_openTick_agenda {s : State} {link : Option LinkIn} {sys : Option SysIn} {site : Site}
    (h : site ∈ (openTick s link sys).agenda) :
    (∃ i, link = some i ∧ site ∈ linkSites i) ∨
    (∃ i, sys = some i ∧ site ∈ sysSites (openTick s link sys) i) ∨
    site ∈ fifoSites := by
  rcases List.mem_append.1 h with h | h
  · rcases List.mem_append.1 h with h | h
    · cases link with
      | none => exact absurd h (by simp)
      | some i => exact .inl ⟨i, rfl, h⟩
    · cases sys with
      | none => exact absurd h (by simp)
      | some i => exact .inr (.inl ⟨i, rfl, h⟩)
  · exact .inr (.inr h)

end Sys2Proof.Machine
end

