-- ==== Sys2Proof/Tests/Slice0.lean ====
section
/-! SUPPORT. Tests: ill-formed terms, the words of every operation written out from the operation
map of spec/30_encoding.md section 4, one step of each operation with values from the rules'
examples and from spec/95_test_vectors.md, and for each statement with hypotheses a witness that
meets them. -/

namespace Sys2Proof.Tests

open Sys2Proof.Machine

/-! ### Ill-formed terms are refused -/

theorem test_illformed_pkt_idle :
    wellFormed (.pktIdleWait true false false false) = false ∧
    wellFormed (.pktIdleWait false true false false) = false ∧
    wellFormed (.pktStart false true true true) = false := by decide

theorem test_illformed_pkt_header_index_3 :
    wellFormed (.pktHdrStall true true false false) = false := by decide

theorem test_illformed_pkt_copy :
    wellFormed (.pktCopyIdle true false false false) = false ∧
    wellFormed (.pktCopyStall false true false) = false ∧
    wellFormed (.pktCopyXfer true false) = false ∧
    wellFormed (.pktCopyLast false true) = false := by decide

theorem test_illformed_dpk_timer_in_idle :
    wellFormed (.dpkIdleWait true false false false false) = false ∧
    wellFormed (.dpkIdleDrop true false false false) = false ∧
    wellFormed (.dpkIdleSync true false false false) = false := by decide

theorem test_illformed_tls_half_word :
    wellFormed (.tlsSendStall false false false false true true) = false ∧
    wellFormed (.tlsSendLast false false false false true) = false := by decide

/-! ### Words of the operation map -/

/-- The bits of a pattern, most significant first. -/
def bits (l : List Nat) : Raw := .bits (l.map (· == 1))

/-- R91 to R94. -/
theorem test_decode_frame :
    decode (.lp .w0) (.frame 0x5AA55AA5) = .ok .lpW0 ∧
    decode (.lp .w0) (.frame 0x5AA55AA4) = .error .noPattern ∧
    decode (.lp .w1) (.frame 0xABCDEF07) = .ok (.lpW1 0xABCDEF 0x07) ∧
    decode (.lp .w2) (.frame 0x00000002) = .ok (.lpW2 2) ∧
    decode (.lp .payload) (.frame 0x5AA55AA5) = .ok (.lpPayload 0x5AA55AA5) := by decide

/-- Patterns `0r`, `10`, `11` of `CH_CW`; `00`, `10`, `01`, `11` of `FQ_CW`; `-`. -/
theorem test_decode_channel_and_fifo :
    decode (.ch .linkRx) (bits [0, 1]) = .ok (.chIdle .linkRx true) ∧
    decode (.ch .linkRx) (bits [1, 0]) = .ok (.chStall .linkRx) ∧
    decode (.ch .linkRx) (bits [1, 1]) = .ok (.chXfer .linkRx) ∧
    decode (.fq .rxq) (bits [0, 0]) = .ok (.fifoNop .rxq) ∧
    decode (.fq .rxq) (bits [1, 0]) = .ok (.fifoPush .rxq) ∧
    decode (.fq .rxq) (bits [0, 1]) = .ok (.fifoPop .rxq) ∧
    decode (.fq .rxq) (bits [1, 1]) = .ok (.fifoPushPop .rxq) ∧
    decode (.sync .txq 2 1) (bits []) = .ok (.afifoSync .txq 2 1) := by decide

/-- Patterns of `LBF_CW`. -/
theorem test_decode_lbf :
    decode .lbf (bits [0, 0, 0, 1, 0]) = .ok (.lbfRxStayNotx true false) ∧
    decode .lbf (bits [0, 0, 1, 1, 0]) = .ok .lbfRxStayBusy ∧
    decode .lbf (bits [0, 0, 1, 0, 1]) = .ok (.lbfRxYield true) ∧
    decode .lbf (bits [0, 0, 1, 1, 1]) = .ok .lbfRxTimeout ∧
    decode .lbf (bits [0, 1, 1, 0, 0]) = .ok (.lbfR2t true false false) ∧
    decode .lbf (bits [1, 0, 0, 0, 1]) = .ok (.lbfTxStayNorx false true) ∧
    decode .lbf (bits [1, 0, 1, 1, 0]) = .ok .lbfTxStayBusy ∧
    decode .lbf (bits [1, 0, 0, 1, 1]) = .ok (.lbfTxYield true) ∧
    decode .lbf (bits [1, 0, 1, 1, 1]) = .ok .lbfTxTimeout ∧
    decode .lbf (bits [1, 1, 0, 1, 0]) = .ok (.lbfT2r false true false) := by decide

/-- Patterns of `PKT_CW`, and the words of R110 refused. -/
theorem test_decode_pkt :
    decode .pkt (bits [0, 0, 0, 0, 0, 1, 0]) = .ok (.pktIdleWait false false true false) ∧
    decode .pkt (bits [0, 0, 0, 0, 1, 0, 1]) = .ok (.pktStart false false false true) ∧
    decode .pkt (bits [0, 1, 1, 0, 1, 0, 0]) = .ok (.pktHdrStall true false true false) ∧
    decode .pkt (bits [0, 1, 0, 0, 1, 0, 1]) = .ok (.pktHdrW0 true false) ∧
    decode .pkt (bits [0, 1, 0, 1, 0, 1, 1]) = .ok (.pktHdrW1 false true) ∧
    decode .pkt (bits [0, 1, 1, 0, 1, 1, 1]) = .ok (.pktHdrW2 true true) ∧
    decode .pkt (bits [1, 0, 0, 0, 0, 1, 0]) = .ok (.pktCopyIdle false false true false) ∧
    decode .pkt (bits [1, 0, 0, 0, 1, 1, 0]) = .ok (.pktCopyStall false false true) ∧
    decode .pkt (bits [1, 0, 0, 0, 1, 0, 1]) = .ok (.pktCopyXfer false false) ∧
    decode .pkt (bits [1, 0, 0, 0, 1, 1, 1]) = .ok (.pktCopyLast false false) ∧
    decode .pkt (bits [1, 1, 0, 0, 0, 0, 0]) = .error .unreachable ∧
    decode .pkt (bits [0, 1, 1, 1, 0, 0, 1]) = .error .unreachable := by decide

/-- Patterns of `DPK_CW`, and the words of R110 refused. -/
theorem test_decode_dpk :
    decode .dpk (bits [0, 0, 0, 1, 0, 1, 0, 1]) = .ok (.dpkIdleWait false true true false true) ∧
    decode .dpk (bits [0, 0, 0, 0, 1, 0, 1, 0]) = .ok (.dpkIdleDrop false false true false) ∧
    decode .dpk (bits [0, 0, 0, 0, 1, 1, 0, 1]) = .ok (.dpkIdleSync false false false true) ∧
    decode .dpk (bits [0, 1, 0, 1, 0, 0, 1, 0]) = .ok (.dpkHdrWait true false true false) ∧
    decode .dpk (bits [0, 1, 0, 0, 1, 1, 0, 1]) = .ok (.dpkHdrDst true false true) ∧
    decode .dpk (bits [0, 1, 0, 1, 1, 0, 1, 0]) = .ok (.dpkHdrLen false true false) ∧
    decode .dpk (bits [0, 1, 1, 0, 1, 0, 1, 0]) = .ok (.dpkHdrAbort false true false true false) ∧
    decode .dpk (bits [1, 0, 0, 0, 0, 1, 0, 1]) = .ok (.dpkCopyWait false true false true) ∧
    decode .dpk (bits [1, 0, 0, 0, 1, 1, 1, 0]) = .ok (.dpkCopyStall false true true) ∧
    decode .dpk (bits [1, 0, 0, 0, 1, 1, 0, 1]) = .ok (.dpkCopyXfer false true) ∧
    decode .dpk (bits [1, 0, 0, 0, 1, 0, 1, 1]) = .ok (.dpkCopyLast false false) ∧
    decode .dpk (bits [1, 0, 1, 0, 0, 1, 0, 1]) = .ok (.dpkCopyAbort false false true false true) ∧
    decode .dpk (bits [0, 0, 1, 0, 0, 0, 0, 0]) = .error .unreachable ∧
    decode .dpk (bits [1, 1, 0, 0, 0, 0, 0, 0]) = .error .unreachable := by decide

/-- Patterns of `XD_CW` and `XA_CW`, and a word of R110 refused. -/
theorem test_decode_crossbar :
    decode .xd (bits [0, 1, 0, 1]) = .ok (.xdIdle true false true) ∧
    decode .xd (bits [1, 1, 1, 0]) = .ok (.xdRouteStall true) ∧
    decode .xd (bits [1, 1, 0, 1]) = .ok (.xdRouteXfer false) ∧
    decode .xd (bits [1, 0, 0, 1]) = .ok (.xdDropWord true) ∧
    decode .xd (bits [1, 0, 1, 0]) = .ok (.xdDropLast false) ∧
    decode .xa (bits [0, 0, 1, 0, 0]) = .ok (.xaPark true false) ∧
    decode .xa (bits [0, 0, 0, 1, 1]) = .ok (.xaSwitchIdle false true) ∧
    decode .xa (bits [1, 0, 1, 0, 1]) = .ok (.xaWait true false true) ∧
    decode .xa (bits [1, 1, 1, 0, 0]) = .ok (.xaStall true false) ∧
    decode .xa (bits [1, 1, 0, 1, 1]) = .ok (.xaXfer true) ∧
    decode .xa (bits [1, 1, 1, 1, 0]) = .ok .xaEndPark ∧
    decode .xa (bits [1, 1, 1, 1, 1]) = .ok .xaEndSwitch ∧
    decode .xa (bits [0, 1, 0, 0, 0]) = .error .unreachable := by decide

/-- Patterns of `TS_CW`, and the word of R275 refused. -/
theorem test_decode_tls :
    decode .tls (bits [0, 0, 1, 0, 1, 0, 1, 0]) =
      .ok (.tlsFillWait true false true false true false) ∧
    decode .tls (bits [0, 1, 0, 0, 1, 0, 0, 1]) = .ok (.tlsFillPush true false false true) ∧
    decode .tls (bits [0, 1, 1, 1, 0, 0, 1, 0]) =
      .ok (.tlsFillCloseLast true false false true false) ∧
    decode .tls (bits [0, 1, 0, 1, 0, 1, 0, 0]) =
      .ok (.tlsFillCloseFull false true false false) ∧
    decode .tls (bits [1, 0, 1, 0, 1, 1, 0, 0]) =
      .ok (.tlsSendStall false true false true true false) ∧
    decode .tls (bits [1, 1, 0, 0, 0, 1, 0, 1]) = .ok (.tlsSendLowMore true false false) ∧
    decode .tls (bits [1, 0, 1, 0, 0, 0, 0, 1]) = .ok (.tlsSendLowPop false true false) ∧
    decode .tls (bits [1, 0, 0, 1, 1, 1, 0, 1]) = .ok (.tlsSendHighPop false false true true) ∧
    decode .tls (bits [1, 0, 0, 1, 1, 1, 1, 1]) =
      .ok (.tlsSendLast false false true true true) ∧
    decode .tls (bits [1, 0, 0, 0, 0, 1, 1, 1]) = .error .unreachable := by decide

/-- Patterns of `TR_CW` and of the system operations. -/
theorem test_decode_tlr_and_system :
    decode .tlr (bits [1, 0, 0, 1]) = .ok (.tlrIdle true false true) ∧
    decode .tlr (bits [0, 1, 0, 1]) = .ok (.tlrTakeLow true) ∧
    decode .tlr (bits [0, 1, 1, 0]) = .ok .tlrSingleStall ∧
    decode .tlr (bits [0, 1, 1, 1]) = .ok .tlrSingleEmit ∧
    decode .tlr (bits [1, 1, 0, 0]) = .ok (.tlrPairStall false) ∧
    decode .tlr (bits [1, 1, 1, 1]) = .ok (.tlrPairEmit true) ∧
    decode .rstLink (bits [1]) = .ok .resetLink ∧
    decode .rstSys (bits [1]) = .ok .resetSys ∧
    decode .rstSys (bits [0]) = .error .noPattern ∧
    decode (.regPort 7) (bits []) = .ok (.xbarRegisterPort 7) := by decide

/-- Two rows of spec/opcode_table.json at one site differ in a bit that both fix (R100). -/
theorem test_rows_are_disjoint :
    (tableRows.Pairwise fun a b => a.site = b.site → (a.value ^^^ b.value) &&& a.mask &&& b.mask ≠ 0) ∧
    tableRows.length = 74 := by decide

/-! ### Small states -/

/-- A configuration with small numbers: two ports, frame mode. -/
def smallCfg : Cfg := ⟨3, 2, 6, false, [0, 1], 1, 4, 4, 2⟩

/-- The reset state under it. -/
def start : State := State.resetWith smallCfg

/-- The state after one step at one site. -/
def after (site : Site) (s : State) : Option State :=
  match step { s with agenda := [site] } with
  | .next t => some t
  | _ => none

/-- The operation a site selects. -/
def op (site : Site) (s : State) : Option Instr :=
  match selects s site with
  | .ok i => some i
  | .error _ => none

/-- A channel with the given bits and payload. -/
def ch {α : Type} (valid ready : Bool) (pay : α) : Chan α := ⟨valid, ready, false, pay⟩

/-! ### One step of each operation -/

/-- R91 to R94: a tag word with reserved bytes, a length word, a payload word that is the preamble.
-/
theorem test_frame_words :
    let s (w : Word) : State := { start with
      sy := { SysWires.off with dpkSink := ch true true w, dpkSource := ch true true default } }
    (after (.lp .w0) (s 0x5AA55AA5)).map (·.sy.pm) = some true ∧
    (after (.lp .w1) (s 0xABCDEF07)).map (·.dpk.dstR) = some 7 ∧
    (after (.lp .w2) (s 0)).map (·.dpk.lenR) = some 0 ∧
    (after (.lp .payload) (s 0x5AA55AA5)).map (·.sy.dpkSource.pay.data) = some 0x5AA55AA5 := by
  decide

/-- Section 3 of the vectors: the channel, one tick. -/
theorem test_channel :
    let s (v r : Bool) : State := { start with sy := { SysWires.off with mTx := ⟨v, r, false, default⟩ } }
    (after (.ch .mTx) (s false true)).map (·.sy.mTx.xfer) = some false ∧
    (after (.ch .mTx) (s true false)).map (·.sy.mTx.xfer) = some false ∧
    (after (.ch .mTx) (s true true)).map (·.sy.mTx.xfer) = some true := by decide

/-- Section 3 of the vectors: rows 1, 2, 5 and 7 of the cross-domain FIFO of two words. -/
theorem test_cross_fifo :
    let s (q : Afifo) (push pop : Bool) (w : Word) : State := { start with
      cfg := { smallCfg with rxqDepth := 2 }
      rxq := q
      lk := { LinkWires.off with rxqSink := ⟨push, push, push, w⟩ }
      sy := { SysWires.off with dpkSink := ⟨pop, pop, pop, 0⟩ } }
    (after (.fq .rxq) (s ⟨[], 0, 0⟩ true false 10)).map (·.rxq) = some ⟨[10], 0, 0⟩ ∧
    (after (.fq .rxq) (s ⟨[10, 11], 0, 0⟩ false false 0)).map (·.rxq) = some ⟨[10, 11], 0, 0⟩ ∧
    (after (.fq .rxq) (s ⟨[10, 11], 1, 0⟩ false true 0)).map (·.rxq) = some ⟨[11], 0, 1⟩ ∧
    (after (.fq .rxq) (s ⟨[11], 1, 0⟩ true true 12)).map (·.rxq) = some ⟨[12], 0, 1⟩ := by decide

/-- Section 3 of the vectors: rows 4 and 6, the synchroniser. -/
theorem test_synchroniser :
    (after (.sync .rxq 1 0) { start with rxq := ⟨[10, 11], 0, 0⟩ }).map (·.rxq) =
      some ⟨[10, 11], 1, 0⟩ ∧
    (after (.sync .rxq 1 0) { start with rxq := ⟨[11], 0, 1⟩ }).map (·.rxq) =
      some ⟨[11], 1, 0⟩ := by decide

/-- The link wires of one tick. -/
def linkAt (st : LbfSt) (rx tx : Nat) (rxValid rxRoom txAvail txReady : Bool) : State :=
  { start with
    lbf := ⟨st, rx, tx⟩
    lk := { LinkWires.off with
      linkRx := ch rxValid false 7
      rxqSink := ch false rxRoom 0
      txqSource := ch txAvail false 9
      linkTx := ch false txReady 0 } }

/-- R148 to R152: the receive half, `T_RX = 3`, `T_TX = 2`. -/
theorem test_lbf_receive :
    (after .lbf (linkAt .receive 0 1 true true false true)).map (·.lbf) = some ⟨.receive, 0, 1⟩ ∧
    (after .lbf (linkAt .receive 2 0 true true true true)).map (·.lbf) = some ⟨.receive, 1, 1⟩ ∧
    (after .lbf (linkAt .receive 2 1 true false true true)).map (·.lbf) =
      some ⟨.receiveToTransmit, 1, 1⟩ ∧
    (after .lbf (linkAt .receive 0 1 true true true true)).map (·.lbf) =
      some ⟨.receiveToTransmit, 0, 1⟩ ∧
    (after .lbf (linkAt .receiveToTransmit 0 0 false false false false)).map (·.lbf) =
      some ⟨.transmit, 2, 1⟩ := by decide

/-- R153 to R157: the transmit half. -/
theorem test_lbf_transmit :
    (after .lbf (linkAt .transmit 2 0 false true true true)).map (·.lbf) = some ⟨.transmit, 2, 0⟩ ∧
    (after .lbf (linkAt .transmit 2 1 true true true true)).map (·.lbf) = some ⟨.transmit, 2, 0⟩ ∧
    (after .lbf (linkAt .transmit 2 1 true true false true)).map (·.lbf) =
      some ⟨.transmitToReceive, 2, 0⟩ ∧
    (after .lbf (linkAt .transmit 2 0 true true true true)).map (·.lbf) =
      some ⟨.transmitToReceive, 2, 0⟩ ∧
    (after .lbf (linkAt .transmitToReceive 2 0 true true true true)).map (·.lbf) =
      some ⟨.receive, 2, 1⟩ := by decide

/-- The Packetizer with a word on `pkt.sink`. -/
def pktAt (p : Pkt) (valid last ready : Bool) : State :=
  { start with
    pkt := p
    sy := { SysWires.off with
      mTx := ch valid false ⟨0x33334444, last, 0xFF, 0⟩
      pktSource := ch false ready default } }

/-- R174 to R179: `dst = 0xFF`, `length = 0` emitted unchanged. -/
theorem test_pkt_header :
    (after .pkt (pktAt ⟨.idle, 0⟩ false false true)).map (·.pkt) = some ⟨.idle, 0⟩ ∧
    (after .pkt (pktAt ⟨.idle, 0⟩ true true true)).map (·.pkt) = some ⟨.insertHeader, 0⟩ ∧
    (after .pkt (pktAt ⟨.insertHeader, 1⟩ true true false)).map (·.pkt) =
      some ⟨.insertHeader, 1⟩ ∧
    (after .pkt (pktAt ⟨.insertHeader, 0⟩ true true true)).map
      (fun t => (t.pkt, t.sy.pktSource.pay.data)) = some (⟨.insertHeader, 1⟩, 0x5AA55AA5) ∧
    (after .pkt (pktAt ⟨.insertHeader, 1⟩ true true true)).map
      (fun t => (t.pkt, t.sy.pktSource.pay.data)) = some (⟨.insertHeader, 2⟩, 0x000000FF) ∧
    (after .pkt (pktAt ⟨.insertHeader, 2⟩ true true true)).map
      (fun t => (t.pkt, t.sy.pktSource.pay.data)) = some (⟨.copy, 0⟩, 0) := by decide

/-- R180 to R183. -/
theorem test_pkt_copy :
    (after .pkt (pktAt ⟨.copy, 0⟩ false true true)).map (·.pkt) = some ⟨.copy, 0⟩ ∧
    (after .pkt (pktAt ⟨.copy, 0⟩ true true false)).map (fun t => (t.pkt, t.sy.mTx.ready)) =
      some (⟨.copy, 0⟩, false) ∧
    (after .pkt (pktAt ⟨.copy, 0⟩ true false true)).map (fun t => (t.pkt, t.sy.pktSource.pay)) =
      some (⟨.copy, 0⟩, ⟨0x33334444, false⟩) ∧
    (after .pkt (pktAt ⟨.copy, 0⟩ true true true)).map (fun t => (t.pkt, t.sy.pktSource.pay)) =
      some (⟨.idle, 0⟩, ⟨0x33334444, true⟩) := by decide

/-- The Depacketizer with a word on `dpk.sink`. -/
def dpkAt (d : Dpk) (valid ready : Bool) (w : Word) : State :=
  { start with
    dpk := d
    sy := { SysWires.off with
      dpkSink := ch valid false w, pm := w == preamble, dpkSource := ch false ready default } }

/-- R197 to R199, `DEPACK_TIMEOUT = 6`: garbage, the preamble. -/
theorem test_dpk_idle :
    (after .dpk (dpkAt ⟨.idle, false, 1, 2, 3, 0, 0⟩ false true 0)).map (·.dpk) =
      some ⟨.idle, false, 1, 2, 0, 5, 0⟩ ∧
    (after .dpk (dpkAt ⟨.idle, false, 1, 2, 3, 0, 0⟩ true true 0xA55AA55A)).map
      (fun t => (t.dpk, t.sy.dpkSink.ready)) = some (⟨.idle, false, 1, 2, 0, 5, 0⟩, true) ∧
    (after .dpk (dpkAt ⟨.idle, false, 1, 2, 3, 0, 0⟩ true true 0x5AA55AA5)).map (·.dpk) =
      some ⟨.receiveHeader, false, 1, 2, 0, 5, 0⟩ := by decide

/-- R200 to R203: the preamble as a tag word (G6), the abort's count from 0xFFFFFFFF to 0. -/
theorem test_dpk_header :
    (after .dpk (dpkAt ⟨.receiveHeader, true, 1, 2, 0, 3, 0⟩ false true 0)).map (·.dpk) =
      some ⟨.receiveHeader, true, 1, 2, 0, 2, 0⟩ ∧
    (after .dpk (dpkAt ⟨.receiveHeader, false, 1, 2, 0, 3, 0⟩ true true 0x5AA55AA5)).map (·.dpk) =
      some ⟨.receiveHeader, true, 0xA5, 2, 0, 2, 0⟩ ∧
    (after .dpk (dpkAt ⟨.receiveHeader, true, 1, 2, 0, 3, 0⟩ true true 0)).map (·.dpk) =
      some ⟨.copy, false, 1, 0, 0, 2, 0⟩ ∧
    (after .dpk (dpkAt ⟨.receiveHeader, true, 1, 2, 0, 0, 0xFFFFFFFF⟩ true true 7)).map
      (fun t => (t.dpk, t.sy.dpkSink.ready, t.sy.abortEvt)) =
      some (⟨.idle, false, 1, 2, 0, 0, 0⟩, false, true) := by decide

/-- R204 to R208: the last word of a frame whose length word is 0 (G3), the abort in `COPY`. -/
theorem test_dpk_copy :
    (after .dpk (dpkAt ⟨.copy, false, 1, 2, 0, 3, 0⟩ false true 0)).map (·.dpk) =
      some ⟨.copy, false, 1, 2, 0, 2, 0⟩ ∧
    (after .dpk (dpkAt ⟨.copy, false, 1, 2, 0, 3, 0⟩ true false 5)).map
      (fun t => (t.dpk, t.sy.dpkSource.pay, t.sy.dpkSink.ready)) =
      some (⟨.copy, false, 1, 2, 0, 2, 0⟩, ⟨5, false, 1, 2⟩, false) ∧
    (after .dpk (dpkAt ⟨.copy, false, 1, 2, 0, 3, 0⟩ true true 0x11112222)).map (·.dpk) =
      some ⟨.copy, false, 1, 2, 1, 2, 0⟩ ∧
    (after .dpk (dpkAt ⟨.copy, false, 1, 0, 0, 3, 0⟩ true true 0xCAFEF00D)).map
      (fun t => (t.dpk.st, t.sy.dpkSource.pay)) = some (.idle, ⟨0xCAFEF00D, true, 1, 1⟩) ∧
    (after .dpk (dpkAt ⟨.copy, false, 1, 2, 1, 0, 0⟩ true true 5)).map
      (fun t => (t.dpk, t.sy.dpkSource.valid)) = some (⟨.idle, false, 1, 2, 1, 0, 1⟩, false) := by
  decide

/-- The dispatch half with a word for `dst` on `m_rx`. -/
def xdAt (valid last ready : Bool) (dst : Tag) : State :=
  { start with
    sy := { SysWires.off with
      dpkSource := ch valid false ⟨9, last, dst, 2⟩
      inPorts := [ch false false default, ch false ready default] } }

/-- R233 to R237: `dst = 1` to port 1 alone, `dst = 7` dropped and counted at its last word. -/
theorem test_xd :
    (after .xd (xdAt false true true 1)).map (fun t => (portChan t.sy.inPorts 1).valid) =
      some false ∧
    (after .xd (xdAt true false false 1)).map
      (fun t => (t.sy.dpkSource.ready, (portChan t.sy.inPorts 1).valid)) = some (false, true) ∧
    (after .xd (xdAt true false true 1)).map
      (fun t => (t.sy.dpkSource.ready, (portChan t.sy.inPorts 0).valid,
        (portChan t.sy.inPorts 1).pay)) = some (true, false, ⟨9, false, 1, 2⟩) ∧
    (after .xd (xdAt true false true 7)).map
      (fun t => (t.sy.dpkSource.ready, t.xbar.unroutedCount)) = some (true, 0) ∧
    (after .xd (xdAt true true true 7)).map
      (fun t => (t.sy.unroutedEvt, t.xbar.unroutedCount)) = some (true, 1) := by decide

/-- The arbiter half: port 0 and port 1 offer as given, grant 0. -/
def xaAt (locked v0 l0 v1 ready : Bool) : State :=
  { start with
    xbar := ⟨0, locked, 0⟩
    sy := { SysWires.off with
      outPorts := [ch v0 false ⟨1, l0, 0, 1⟩, ch v1 false ⟨2, true, 1, 1⟩]
      mTx := ch false ready default } }

/-- R241 to R247. -/
theorem test_xa :
    (after .xa (xaAt false false false false true)).map (·.xbar) = some ⟨0, false, 0⟩ ∧
    (after .xa (xaAt false false false true true)).map (·.xbar) = some ⟨1, false, 0⟩ ∧
    (after .xa (xaAt true false false true true)).map (·.xbar) = some ⟨0, true, 0⟩ ∧
    (after .xa (xaAt false true false true false)).map (·.xbar) = some ⟨0, false, 0⟩ ∧
    (after .xa (xaAt false true false true true)).map (·.xbar) = some ⟨0, true, 0⟩ ∧
    (after .xa (xaAt true true true false true)).map (·.xbar) = some ⟨0, false, 0⟩ ∧
    (after .xa (xaAt true true true true true)).map (·.xbar) = some ⟨1, false, 0⟩ := by decide

/-- The TLP Sender with a lane offered and `tls.out.ready` as given. -/
def tlsAt (t : Tls) (valid last : Bool) (be : ByteEnable) (ready : Bool) : State :=
  { start with
    tls := t
    sy := { SysWires.off with
      tlpTxIn := ch valid false ⟨0x2222222211111111, be, last⟩
      outPorts := [chanOff, ch false ready default] } }

/-- A lane with both halves, and one with the lower half alone. -/
def fullLane : LaneEntry := ⟨0x2222222211111111, 0xFF⟩
def halfLane : LaneEntry := ⟨0x0000000055555555, 0x0F⟩

/-- R266 to R269, `TLP_TXQ_DEPTH = 2`. -/
theorem test_tls_fill :
    (after .tls (tlsAt ⟨.fill, [], 0, 0, false⟩ false false 0xFF true)).map (·.tls) =
      some ⟨.fill, [], 0, 0, false⟩ ∧
    (after .tls (tlsAt ⟨.fill, [], 0, 0, false⟩ true false 0xFF true)).map (·.tls) =
      some ⟨.fill, [fullLane], 2, 0, false⟩ ∧
    (after .tls (tlsAt ⟨.fill, [], 0, 0, false⟩ true true 0x0F true)).map
      (fun t => (t.tls.st, t.tls.wcount)) = some (.send, 1) ∧
    (after .tls (tlsAt ⟨.fill, [fullLane], 2, 0, false⟩ true false 0xFF true)).map
      (fun t => (t.tls.st, t.tls.wcount)) = some (.send, 4) := by decide

/-- R270 to R274: the words of a full lane and of a half one, in order. -/
theorem test_tls_send :
    (after .tls (tlsAt ⟨.send, [fullLane], 2, 0, false⟩ false false 0 false)).map
      (fun t => (t.tls.sent, (portChan t.sy.outPorts 1).pay)) =
      some (0, ⟨0x11111111, false, 1, 2⟩) ∧
    (after .tls (tlsAt ⟨.send, [fullLane], 2, 0, false⟩ false false 0 true)).map (·.tls) =
      some ⟨.send, [fullLane], 2, 1, true⟩ ∧
    (after .tls (tlsAt ⟨.send, [halfLane, fullLane], 3, 0, false⟩ false false 0 true)).map (·.tls) =
      some ⟨.send, [fullLane], 3, 1, false⟩ ∧
    (after .tls (tlsAt ⟨.send, [fullLane, halfLane], 3, 1, true⟩ false false 0 true)).map (·.tls) =
      some ⟨.send, [halfLane], 3, 2, false⟩ ∧
    (after .tls (tlsAt ⟨.send, [halfLane], 3, 2, false⟩ false false 0 true)).map
      (fun t => (t.tls, (portChan t.sy.outPorts 1).pay)) =
      some (⟨.fill, [], 0, 0, false⟩, ⟨0x55555555, true, 1, 3⟩) := by decide

/-- The TLP Receiver with a word on `tlr.in`. -/
def tlrAt (haveLow valid last ready : Bool) : State :=
  { start with
    tlr := ⟨0x11111111, haveLow⟩
    sy := { SysWires.off with
      inPorts := [chanOff, ch valid false ⟨0x22222222, last, 1, 2⟩]
      tlpRxOut := ch false ready default } }

/-- R294 to R299. -/
theorem test_tlr :
    (after .tlr (tlrAt true false true true)).map (·.tlr) = some ⟨0x11111111, true⟩ ∧
    (after .tlr (tlrAt false true false false)).map (·.tlr) = some ⟨0x22222222, true⟩ ∧
    (after .tlr (tlrAt false true true false)).map (fun t => (t.tlr, t.sy.tlpRxOut.valid)) =
      some (⟨0x11111111, false⟩, true) ∧
    (after .tlr (tlrAt false true true true)).map (fun t => (t.tlr.haveLow, t.sy.tlpRxOut.pay)) =
      some (false, ⟨0x0000000022222222, 0x0F, true⟩) ∧
    (after .tlr (tlrAt true true false false)).map (·.tlr) = some ⟨0x11111111, true⟩ ∧
    (after .tlr (tlrAt true true false true)).map (fun t => (t.tlr.haveLow, t.sy.tlpRxOut.pay)) =
      some (false, ⟨0x2222222211111111, 0xFF, false⟩) := by decide

/-- R318, R319, R320: each reset alone leaves the cross-domain FIFOs; both together empty them; a
third port; a tag registered twice; no port after the first tick. -/
theorem test_system :
    (after .rstLink { linkAt .transmit 0 0 true true true true with
      txq := ⟨[9], 1, 0⟩, lk := { LinkWires.off with rst := true } }).map
      (fun t => (t.lbf, t.txq)) = some (⟨.receive, 2, 1⟩, ⟨[9], 1, 0⟩) ∧
    (after .rstSys { start with
      dpk := ⟨.copy, false, 1, 2, 1, 3, 4⟩, rxq := ⟨[9], 1, 0⟩, linkHeld := true
      sy := { SysWires.off with rst := true } }).map (fun t => (t.dpk, t.rxq)) =
      some (⟨.idle, false, 0, 0, 0, 5, 0⟩, ⟨[], 0, 0⟩) ∧
    (after (.regPort 7) start).map (·.cfg.tags) = some [0, 1, 7] ∧
    (after (.regPort 1) start) = none ∧
    (after (.regPort 7) { start with started := true }) = none := by decide

/-- A bare table word runs as the first step after reset: `LBF.RX_TIMEOUT`. -/
theorem test_withFetchWord :
    decodeTableWord 8 0x17 = some .lbfTxTimeout ∧
    (match step (State.reset.withFetchWord 8 0x17) with
     | .next t => some t.lbf.st
     | _ => none) = some .transmitToReceive := by decide

/-! ### Witnesses: states and operands that meet a statement's hypotheses -/

/-- Idle inputs, and inputs in reset. -/
def idleLinkIn : LinkIn := ⟨false, false, 0, true⟩
def idleSysIn : SysIn := ⟨false, false, default, true, [default, default]⟩
def rstLinkIn : LinkIn := ⟨true, false, 0, true⟩
def rstSysIn : SysIn := ⟨true, false, default, true, [default, default]⟩

theorem start_inv : Inv start :=
  ⟨by decide, by decide, by decide, by decide, by decide, by decide, by decide, by decide,
    by decide, ⟨by decide, rfl⟩, by decide⟩

theorem start_live : Live start :=
  ⟨.inr rfl, by simp [start, State.resetWith], by decide, by decide, by decide⟩

theorem start_atRest : AtRest start := ⟨rfl, .inr rfl⟩

theorem witness_StepRunsSelectedOperation :
    start.agenda = [] ∧
    decode .lbf (controlWord { start with agenda := [.lbf] } .lbf) =
      .ok (.lbfRxStayNotx false false) ∧
    decode .pkt (controlWord { start with agenda := [.pkt], pkt := ⟨.idle, 1⟩ } .pkt) =
      .error .unreachable := by decide

theorem witness_DecodeOfEncode :
    wellFormed (.pktHdrStall true false true true) = true ∧
    wellFormed (.tlsSendLast true true true false false) = true := by decide

theorem witness_EncodeOfDecode : decode .xa (bits [1, 1, 1, 1, 1]) = .ok .xaEndSwitch := by decide

theorem witness_PatternsCoverReachableWords :
    (Site.tls, 8) ∈ [(Site.lbf, 5), (.pkt, 7), (.dpk, 8), (.xd, 4), (.xa, 5), (.tls, 8), (.tlr, 4)] ∧
    [true, true, false, false, false, true, false, true].length = 8 ∧
    unreachable .tls [true, true, false, false, false, true, false, true] = false ∧
    unreachable .tls [true, true, false, false, false, true, true, true] = true := by decide

theorem witness_ExactlyOneOperationPerComponent : Inv start ∧ Site.tls ∈ componentSites :=
  ⟨start_inv, by decide⟩

theorem witness_FrameWordEffects :
    (dpkAt (Dpk.reset smallCfg) true true 0x5AA55AA5).sy.dpkSink.pay = 0x5AA55AA5 := by decide

theorem witness_ChannelOperations :
    let s (v r : Bool) : State := { start with sy := { SysWires.off with mTx := ⟨v, r, false, default⟩ } }
    (s false true).handshakeOf .mTx = (false, true) ∧
    (s true false).handshakeOf .mTx = (true, false) ∧
    (s true true).handshakeOf .mTx = (true, true) := by decide

theorem witness_CrossFifoOperations_rxq :
    let s (push pop : Bool) : State := { start with
      rxq := ⟨[1, 2, 3], 1, 0⟩
      lk := { LinkWires.off with rxqSink := ⟨push, push, push, 5⟩ }
      sy := { SysWires.off with dpkSink := ⟨pop, pop, pop, 1⟩ } }
    ∀ push pop, ((s push pop).lk.rxqSink.xfer && decide (3 + 0 < (s push pop).cfg.rxqDepth)) = push ∧
      ((s push pop).sy.dpkSink.xfer && decide (0 < (s push pop).rxq.vis)) = pop := by decide

theorem witness_CrossFifoOperations_txq :
    let s (push pop : Bool) : State := { start with
      txq := ⟨[1, 2, 3], 1, 0⟩
      sy := { SysWires.off with pktSource := ⟨push, push, push, ⟨5, false⟩⟩ }
      lk := { LinkWires.off with txqSource := ⟨pop, pop, pop, 1⟩ } }
    ∀ push pop, ((s push pop).sy.pktSource.xfer && decide (3 + 0 < (s push pop).cfg.txqDepth)) = push ∧
      ((s push pop).lk.txqSource.xfer && decide (0 < (s push pop).txq.vis)) = pop := by decide

theorem witness_SynchroniserStep :
    let q : Afifo := ⟨[1, 2], 1, 1⟩
    q.vis ≤ 2 ∧ 2 ≤ q.items.length ∧ 1 ≤ q.freed ∧ q.vis ≤ 1 ∧ 0 ≤ q.freed := by decide

theorem witness_SynchroniserStaysInRange :
    let s : State := { start with rxq := ⟨[1, 2], 1, 1⟩, txq := ⟨[1, 2], 1, 1⟩ }
    s.rxq.wf s.cfg.rxqDepth = true ∧ s.txq.wf s.cfg.txqDepth = true ∧
    (∃ t, exec (.afifoSync .rxq 9 9) s = .next t) ∧ ∃ t, exec (.afifoSync .txq 0 0) s = .next t :=
  ⟨by decide, by decide, ⟨_, rfl⟩, ⟨_, rfl⟩⟩

/-- One state for each clause, in the statement's order; what it selects shows its operands. -/
theorem witness_LinkBusOperations :
    op .lbf (linkAt .receive 0 1 true true false true) = some (.lbfRxStayNotx true true) ∧
    op .lbf (linkAt .receive 2 1 true true true true) = some .lbfRxStayBusy ∧
    op .lbf (linkAt .receive 2 1 true false true true) = some (.lbfRxYield false) ∧
    op .lbf (linkAt .receive 0 1 true true true true) = some .lbfRxTimeout ∧
    op .lbf (linkAt .receiveToTransmit 2 1 true true true true) = some (.lbfR2t true true false) ∧
    op .lbf (linkAt .transmit 2 0 false true true true) = some (.lbfTxStayNorx true true) ∧
    op .lbf (linkAt .transmit 2 1 true true true true) = some .lbfTxStayBusy ∧
    op .lbf (linkAt .transmit 2 1 true true false true) = some (.lbfTxYield false) ∧
    op .lbf (linkAt .transmit 2 0 true true true true) = some .lbfTxTimeout ∧
    op .lbf (linkAt .transmitToReceive 2 1 true true true true) = some (.lbfT2r true true false) := by
  decide

/-- One state for each clause, in the statement's order. -/
theorem witness_PacketizerOperations :
    op .pkt (pktAt ⟨.idle, 0⟩ false false true) = some (.pktIdleWait false false false true) ∧
    op .pkt (pktAt ⟨.idle, 0⟩ true true true) = some (.pktStart false false true true) ∧
    op .pkt (pktAt ⟨.insertHeader, 2⟩ true true false) = some (.pktHdrStall true false true true) ∧
    op .pkt (pktAt ⟨.insertHeader, 0⟩ true true true) = some (.pktHdrW0 true true) ∧
    op .pkt (pktAt ⟨.insertHeader, 1⟩ true true true) = some (.pktHdrW1 true true) ∧
    op .pkt (pktAt ⟨.insertHeader, 2⟩ true true true) = some (.pktHdrW2 true true) ∧
    op .pkt (pktAt ⟨.copy, 0⟩ false true true) = some (.pktCopyIdle false false true true) ∧
    op .pkt (pktAt ⟨.copy, 0⟩ true true false) = some (.pktCopyStall false false true) ∧
    op .pkt (pktAt ⟨.copy, 0⟩ true false true) = some (.pktCopyXfer false false) ∧
    op .pkt (pktAt ⟨.copy, 0⟩ true true true) = some (.pktCopyLast false false) := by decide

/-- One state for each clause; the preamble wire agrees with the word. -/
theorem witness_DepacketizerIdleOperations :
    let s (v : Bool) (w : Word) := dpkAt (Dpk.reset smallCfg) v true w
    (∀ v, (s v 7).dpk.st = .idle ∧ (s v 7).sy.pm = ((s v 7).sy.dpkSink.pay == 0x5AA55AA5)) ∧
    (s true preamble).sy.pm = ((s true preamble).sy.dpkSink.pay == 0x5AA55AA5) ∧
    op .dpk (s false 7) = some (.dpkIdleWait false false false true true) ∧
    op .dpk (s true 7) = some (.dpkIdleDrop false false true true) ∧
    op .dpk (s true preamble) = some (.dpkIdleSync false false true true) := by decide

/-- One state for each clause: the timer at 1 and at 0, the two header positions. -/
theorem witness_DepacketizerHeaderOperations :
    let s (h : Bool) (timer : Nat) (v : Bool) := dpkAt ⟨.receiveHeader, h, 0, 0, 0, timer, 0⟩ v true 7
    op .dpk (s false 1 false) = some (.dpkHdrWait false false true true) ∧
    op .dpk (s false 1 true) = some (.dpkHdrDst false true true) ∧
    op .dpk (s true 1 true) = some (.dpkHdrLen false true true) ∧
    op .dpk (s true 0 true) = some (.dpkHdrAbort true true false true true) := by decide

/-- One state for each clause: the timer at 1 and at 0, the last word and the one before it. -/
theorem witness_DepacketizerCopyOperations :
    let s (cnt : Word) (timer : Nat) (v r : Bool) : State :=
      { dpkAt ⟨.copy, false, 1, 2, cnt, timer, 0⟩ v true 7 with
        sy := { (dpkAt ⟨.copy, false, 1, 2, cnt, timer, 0⟩ v true 7).sy with
          dpkSource := ch false r default } }
    op .dpk (s 0 1 false true) = some (.dpkCopyWait false false false true) ∧
    op .dpk (s 0 1 true false) = some (.dpkCopyStall false false false) ∧
    op .dpk (s 0 1 true true) = some (.dpkCopyXfer false false) ∧
    op .dpk (s 1 1 true true) = some (.dpkCopyLast false false) ∧
    op .dpk (s 1 0 true true) = some (.dpkCopyAbort false true false true true) := by decide

/-- One state for each clause: `m_rx` idle, port 1 without and with room, a word and a last word for
no port. -/
theorem witness_DispatchOperations :
    smallCfg.tags.Nodup ∧ smallCfg.tags[1]? = some 1 ∧ (7 : Tag) ∉ smallCfg.tags ∧
    (∀ v l r d, (xdAt v l r d).cfg = smallCfg ∧
      (xdAt v l r d).sy.inPorts.length = smallCfg.nPorts ∧
      (xdAt v l r d).sy.dpkSource.valid = v ∧ (xdAt v l r d).sy.dpkSource.pay.last = l ∧
      (xdAt v l r d).sy.dpkSource.pay.dst = d ∧
      (portChan (xdAt v l r d).sy.inPorts 1).ready = r) ∧
    op .xd (xdAt false true true 1) = some (.xdIdle true true true) ∧
    op .xd (xdAt true true false 1) = some (.xdRouteStall true) ∧
    op .xd (xdAt true true true 1) = some (.xdRouteXfer true) ∧
    op .xd (xdAt true false true 7) = some (.xdDropWord false) ∧
    op .xd (xdAt true true true 7) = some (.xdDropLast false) :=
  ⟨by decide, by decide, by decide, fun _ _ _ _ => ⟨rfl, rfl, rfl, rfl, rfl, rfl⟩, by decide⟩

/-- One state for each clause, in the statement's order. -/
theorem witness_ArbiterOperations :
    start.xbar.grant < (xaAt false false false false true).sy.outPorts.length ∧
    op .xa (xaAt false false false false true) = some (.xaPark false true) ∧
    op .xa (xaAt false false false true true) = some (.xaSwitchIdle false true) ∧
    op .xa (xaAt true false false true true) = some (.xaWait false true true) ∧
    op .xa (xaAt false true false true false) = some (.xaStall false true) ∧
    op .xa (xaAt false true false true true) = some (.xaXfer true) ∧
    op .xa (xaAt true true true false true) = some .xaEndPark ∧
    op .xa (xaAt true true true true true) = some .xaEndSwitch := by decide

/-- One state for each clause; the third and the fourth with room for one lane. -/
theorem witness_SenderFillOperations :
    op .tls (tlsAt Tls.reset false false 0 true) =
      some (.tlsFillWait false false false false false true) ∧
    op .tls (tlsAt Tls.reset true false 0 true) = some (.tlsFillPush false false false true) ∧
    op .tls (tlsAt ⟨.fill, [fullLane], 2, 0, false⟩ true true 0 true) =
      some (.tlsFillCloseLast true false true false true) ∧
    op .tls (tlsAt ⟨.fill, [fullLane], 2, 0, false⟩ true false 0 true) =
      some (.tlsFillCloseFull false true false true) := by decide

/-- One state for each clause; each has the invariants of R276. -/
theorem witness_SenderSendOperations :
    (TlsInv 2 ⟨.send, [fullLane], 2, 0, false⟩ ∧ TlsInv 2 ⟨.send, [halfLane, fullLane], 3, 0, false⟩ ∧
      TlsInv 2 ⟨.send, [fullLane, halfLane], 3, 1, true⟩ ∧
      TlsInv 2 ⟨.send, [halfLane], 3, 2, false⟩) ∧
    start.cfg.tlpPort < (tlsAt Tls.reset false false 0 true).sy.outPorts.length ∧
    op .tls (tlsAt ⟨.send, [fullLane], 2, 0, false⟩ false false 0 false) =
      some (.tlsSendStall false false true false true false) ∧
    op .tls (tlsAt ⟨.send, [fullLane], 2, 0, false⟩ false false 0 true) =
      some (.tlsSendLowMore false false true) ∧
    op .tls (tlsAt ⟨.send, [halfLane, fullLane], 3, 0, false⟩ false false 0 true) =
      some (.tlsSendLowPop false false false) ∧
    op .tls (tlsAt ⟨.send, [fullLane, halfLane], 3, 1, true⟩ false false 0 true) =
      some (.tlsSendHighPop false false false true) ∧
    op .tls (tlsAt ⟨.send, [halfLane], 3, 2, false⟩ false false 0 true) =
      some (.tlsSendLast false false true false false) := by
  refine ⟨⟨?_, ?_, ?_, ?_⟩, ?_⟩
  · exact ⟨by decide, by decide, by decide, by decide, by decide⟩
  · exact ⟨by decide, by decide, by decide, by decide, by decide⟩
  · exact ⟨by decide, by decide, by decide, by decide, by decide⟩
  · exact ⟨by decide, by decide, by decide, by decide, by decide⟩
  · decide

/-- One state for each clause, in the statement's order. -/
theorem witness_ReceiverOperations :
    op .tlr (tlrAt true false true true) = some (.tlrIdle true true true) ∧
    op .tlr (tlrAt false true false false) = some (.tlrTakeLow false) ∧
    op .tlr (tlrAt false true true false) = some .tlrSingleStall ∧
    op .tlr (tlrAt false true true true) = some .tlrSingleEmit ∧
    op .tlr (tlrAt true true false false) = some (.tlrPairStall false) ∧
    op .tlr (tlrAt true true true true) = some (.tlrPairEmit true) := by decide

/-- For ResetLinkOperation and ResetSysOperation. -/
theorem witness_ResetOperations :
    { start with lk := { LinkWires.off with rst := true } }.lk.rst = true ∧
    { start with sy := { SysWires.off with rst := true } }.sy.rst = true := by decide

theorem witness_RegisterPort :
    start.started = false ∧ (7 : Tag) ∉ start.cfg.tags ∧ (1 : Tag) ∈ start.cfg.tags ∧
    { start with started := true }.started = true := by decide

theorem witness_ElaborationBuildsPortTable :
    ([3, 0, 1] : List Tag).Nodup ∧ ¬ ([0, 1, 0] : List Tag).Nodup := by decide

theorem witness_InadmissibleConfigurationHasNoTick :
    AtRest start ∧ ¬ ([1, 1] : List Tag).Nodup ∧ (1 : Tag) ∉ ([] : List Tag) ∧
    { smallCfg with depackTimeout := 0 }.depackTimeout = 0 ∧
    { smallCfg with rxqDepth := 0 }.rxqDepth = 0 ∧ { smallCfg with txqDepth := 0 }.txqDepth = 0 ∧
    { smallCfg with tlpTxqDepth := 0 }.tlpTxqDepth = 0 :=
  ⟨start_atRest, by decide⟩

/-- For ResetOfBothDomains and ResetsAndFifos. -/
theorem witness_resets :
    smallCfg.admitted = true ∧ AtRest start ∧ rstLinkIn.rst = true ∧ rstSysIn.rst = true ∧
    start.linkHeld = false ∧ start.sysHeld = false :=
  ⟨by decide, start_atRest, by decide⟩

theorem witness_FirstTickAfterReset :
    smallCfg.admitted = true ∧ linkIdle idleLinkIn ∧ sysIdle idleSysIn :=
  ⟨by decide, ⟨rfl, rfl⟩, rfl, rfl, by decide⟩

/-- For LinkOutputs, SettledWiresAreAFixedPoint, DepacketizerOutputs, DispatchOutputs,
ArbiterOutputs, PacketizerOutputs, SenderOutputs, ReceiverOutputs, RoutingCorrectness and
EventsExcludeEachOther: no reset, a grant and a TLP port in range, unique tags, and a spent timer
in `COPY`. -/
theorem witness_outputs :
    idleLinkIn.rst = false ∧ idleSysIn.rst = false ∧ start.xbar.grant < start.cfg.nPorts ∧
    start.cfg.tlpPort < start.cfg.nPorts ∧ start.cfg.tags.Nodup ∧
    start.cfg.tags[1]? = some 1 ∧
    (let s := dpkAt ⟨.copy, false, 1, 2, 0, 0, 0⟩ true true 7
     (s.dpk.st = .copy ∧ (s.dpk.st != .idle && s.dpk.timer == 0) = true)) := by decide

/-- For the clauses of the same statements: a word for port 1 that is transferred, a word for no
port, and a lane in `SEND`. -/
theorem witness_outputs_clauses :
    let s (dst : Tag) : State := { start with
      dpk := ⟨.copy, false, dst, 2, 0, 3, 0⟩
      rxq := ⟨[7], 1, 0⟩
      tls := ⟨.send, [fullLane], 2, 0, false⟩ }
    start.cfg.tags[1]? = some 1 ∧ (settleSys (s 1) idleSysIn).dpkSource.pay.dst = 1 ∧
    transfers (portChan (settleSys (s 1) idleSysIn).inPorts 1) = true ∧
    (settleSys (s 7) idleSysIn).dpkSource.pay.dst ∉ start.cfg.tags ∧
    (s 1).tls.q = [fullLane] ∧ 1 ≤ (s 1).tls.wcount ∧ (s 1).tls.wcount < 2 ^ 32 := by decide

/-- A link tick with the receive window open, and an event that is no link tick. -/
theorem witness_BusMutualExclusion :
    Inv start ∧ AtRest start ∧ (settleLink start idleLinkIn).rxWindow = true ∧
    (∃ t, perform (.tick (some idleLinkIn) none) start = .next t) ∧
    (∃ t, perform (.sync .rxq 0 0) start = .next t) ∧
    ∀ i sys, Event.sync .rxq 0 0 ≠ .tick (some i) sys :=
  ⟨start_inv, start_atRest, by decide, ⟨_, rfl⟩, ⟨_, rfl⟩, fun _ _ h => by cases h⟩

/-- For RoundRobinNextGrant, PacketsAreNotInterleaved and GrantApproachesWaitingPort. -/
theorem witness_arbitration :
    0 < start.cfg.nPorts ∧ 1 < start.cfg.nPorts ∧ (1 : Nat) ≠ 0 ∧
    (portChan (xaAt true true true true true).sy.outPorts 1).valid = true ∧
    op .xa (xaAt true true true true true) = some .xaEndSwitch ∧
    ∃ t, exec .xaEndSwitch (xaAt true true true true true) = .next t :=
  ⟨by decide, by decide, by decide, by decide, by decide, ⟨_, rfl⟩⟩

/-- A state with a tick placed, for EveryStepKeepsInvariants and RunningCoreNeverStops. -/
theorem witness_EveryStepKeepsInvariants :
    ∃ s t, Inv s ∧ Live s ∧ AtRest s ∧ step s = .next t :=
  ⟨{ start with stim := [.tick (some idleLinkIn) (some idleSysIn)] }, _,
    ⟨by decide, by decide, by decide, by decide, by decide, by decide, by decide, by decide,
      by decide, ⟨by decide, rfl⟩, by decide⟩,
    ⟨.inr rfl, by simp [start, State.resetWith], by decide, by decide, by decide⟩,
    ⟨rfl, .inr rfl⟩, rfl⟩

/-- For TickIsOneSimultaneousUpdate. -/
theorem witness_ticks :
    Inv start ∧ AtRest start ∧
    (∃ t, perform (.tick (some idleLinkIn) none) start = .next t) :=
  ⟨start_inv, start_atRest, ⟨_, rfl⟩⟩

/-- One input for each clause, and a state in which the first counts an abort. -/
theorem witness_CountersCountPulses :
    Inv start ∧ AtRest start ∧ idleSysIn.rst = false ∧ rstSysIn.rst = true ∧
    ticksSys (.tick (some idleLinkIn) none) = false ∧ ticksSys (.sync .rxq 0 0) = false ∧
    (settleSys { start with dpk := ⟨.copy, false, 1, 2, 0, 0, 0⟩ } idleSysIn).abortEvt = true :=
  ⟨start_inv, start_atRest, by decide⟩

theorem witness_QuiescenceIsStable :
    Inv start ∧ AtRest start ∧ Quiescent start ∧ linkIdle idleLinkIn ∧ sysIdle idleSysIn ∧
    some idleLinkIn ∈ [none, some idleLinkIn] ∧ none ∈ [none, some idleSysIn] :=
  ⟨start_inv, start_atRest, ⟨rfl, rfl, rfl, rfl, rfl, rfl, rfl, rfl, rfl⟩, ⟨rfl, rfl⟩,
    ⟨rfl, rfl, by decide⟩, by decide, by decide⟩

/-- A window of one tick in which both directions want the bus. -/
def window (st : LbfSt) : State :=
  { start with
    cfg := { smallCfg with tRx := 1, tTx := 1 }
    lbf := ⟨st, 0, 0⟩
    txq := ⟨[9], 1, 0⟩ }

theorem window_inv (st : LbfSt) : Inv (window st) :=
  ⟨by cases st <;> decide, Nat.zero_le _, Nat.zero_le _, fun _ => rfl, by cases st <;> decide,
    by cases st <;> decide, by cases st <;> decide, by cases st <;> decide, by cases st <;> decide,
    by cases st <;> exact ⟨by decide, rfl⟩, by cases st <;> decide⟩

theorem witness_WindowsAreBounded (st : LbfSt) :
    let es := [Event.tick (some ⟨false, true, 5, true⟩) none]
    Inv (window st) ∧ AtRest (window st) ∧ 1 ≤ (window st).cfg.tRx ∧ 1 ≤ (window st).cfg.tTx ∧
    (window st).lbf.rxTime = (window st).cfg.tRx - 1 ∧
    (window st).lbf.txTime = (window st).cfg.tTx - 1 ∧ es.length = (window st).cfg.tRx ∧
    along (fun u e => LinkTick (fun i => linkWantsTx u i = true) e) es (window st) ∧
    along (fun u e => LinkTick (fun i => linkWantsRx u i = true) e) es (window st) :=
  ⟨window_inv st, ⟨rfl, .inr rfl⟩, le_rfl, le_rfl, rfl, rfl, rfl,
    ⟨⟨_, _, rfl, rfl, rfl⟩, fun _ _ => trivial⟩, ⟨⟨_, _, rfl, rfl, rfl⟩, fun _ _ => trivial⟩⟩

/-- A word at the head of `rxq` for a Depacketizer in the given state, and a timeout of two ticks. -/
def wordAt (wordMode : Bool) (d : Dpk) (w : Word) : State :=
  { start with
    cfg := { smallCfg with depackTimeout := 2, depackTimerRestartOnWord := wordMode }
    dpk := d
    rxq := ⟨[w], 1, 0⟩ }

/-- The Depacketizer in `IDLE`, and in `COPY` before the first of two words for port 1. -/
def idleDpk : Dpk := ⟨.idle, false, 0, 0, 0, 1, 0⟩
def copyDpk : Dpk := ⟨.copy, false, 1, 2, 0, 1, 0⟩

theorem wordAt_inv (m : Bool) (d : Dpk) (w : Word)
    (h : (d, w) ∈ [(idleDpk, preamble), (copyDpk, 7)]) : Inv (wordAt m d w) := by
  simp only [List.mem_cons, Prod.mk.injEq, List.not_mem_nil, or_false] at h
  rcases h with ⟨rfl, rfl⟩ | ⟨rfl, rfl⟩ <;> cases m <;>
  exact ⟨by decide, by decide, by decide, by decide, by decide, by decide, by decide, rfl,
    by decide, ⟨by decide, rfl⟩, by decide⟩

/-- The event happens, and the state after it meets `p`. -/
def holdsAfter (p : State → Bool) (e : Event) (s : State) : Bool :=
  match perform e s with
  | .next t => p t
  | _ => false

theorem holdsAfter_along {p : State → Event → Bool} {a e : Event} {s : State}
    (h : holdsAfter (fun t => !p t a) e s = true) :
    ∀ t, perform e s = .next t → along (fun u b => p u b = false) [a] t := by
  intro t ht
  simp only [holdsAfter, ht, Bool.not_eq_true'] at h
  exact ⟨h, fun _ _ => trivial⟩

/-- One state for frame mode, and one in `IDLE` and one in `COPY` for word mode; the tick after the
first is the last before the timeout. -/
theorem witness_AbortComesExactlyAtTimeout :
    let e := Event.tick none (some idleSysIn)
    let s := wordAt false idleDpk 0x5AA55AA5
    let i := wordAt true idleDpk 0x5AA55AA5
    let c := wordAt true copyDpk 7
    (Inv s ∧ AtRest s ∧ Inv i ∧ AtRest i ∧ Inv c ∧ AtRest c) ∧
    (SysTick e ∧ ∀ a ∈ [e], NoSysReset a) ∧
    (∀ u ∈ [s, i, c], [e].countP ticksSys < u.cfg.depackTimeout ∧
      [e].countP ticksSys = u.cfg.depackTimeout - 1) ∧
    (s.cfg.depackTimerRestartOnWord = false ∧ s.dpk.st = .idle ∧ 0 < s.rxq.vis ∧
      s.rxq.items.head? = some 0x5AA55AA5 ∧
      ∀ t, perform e s = .next t → along (fun u a => endsFrame u a = false) [e] t) ∧
    (i.rxq.items.head? = some 0x5AA55AA5 ∧ c.dpk.st ≠ .idle) ∧
    (∀ u ∈ [i, c], u.cfg.depackTimerRestartOnWord = true ∧ takesWord u e = true ∧
      endsFrame u e = false) ∧
    (∀ t, perform e i = .next t → along (fun u a => takesWord u a = false) [e] t) ∧
    ∀ t, perform e c = .next t → along (fun u a => takesWord u a = false) [e] t := by
  have tick : SysTick (.tick none (some idleSysIn)) := ⟨none, idleSysIn, rfl, rfl⟩
  refine ⟨⟨wordAt_inv _ _ _ (by decide), ⟨rfl, .inr rfl⟩, wordAt_inv _ _ _ (by decide),
    ⟨rfl, .inr rfl⟩, wordAt_inv _ _ _ (by decide), ⟨rfl, .inr rfl⟩⟩,
    ⟨tick, by simpa [NoSysReset] using fun _ => tick⟩, by decide,
    ⟨rfl, rfl, by decide, rfl, holdsAfter_along (by decide)⟩, by decide, by decide,
    holdsAfter_along (by decide), holdsAfter_along (by decide)⟩

/-- For both FIFOs: two words, one of them visible, and two slots not yet seen free. -/
theorem witness_FifoDeliversInOrder :
    let s : State := { start with rxq := ⟨[1, 2], 1, 2⟩, txq := ⟨[1, 2], 1, 2⟩ }
    (s.crossFifo .rxq).wf (s.crossDepth .rxq) = true ∧
    (s.crossFifo .txq).wf (s.crossDepth .txq) = true := by decide

/-- For PacketizerEmitsFrame, Resynchronisation and RoundTrip: packets of one word and of two,
garbage before a frame, and the shortest timeouts that allow the frame in frame mode and in word
mode. -/
theorem witness_framing :
    LinkPacket.wf ⟨1, [7]⟩ ∧ LinkPacket.wf ⟨1, [0x11112222, 0x33334444]⟩ ∧
    start.pkt = ⟨.idle, 0⟩ ∧ start.dpk.st = .idle ∧
    (∀ w ∈ ([0x5AA55AA4, 0xA55AA55A] : List Word), w ≠ 0x5AA55AA5) ∧
    [(7 : Word)].length + 3 ≤ { smallCfg with depackTimeout := 4 }.depackTimeout ∧
    ({ smallCfg with depackTimerRestartOnWord := true, depackTimeout := 2 }.depackTimerRestartOnWord
      = true ∧ 2 ≤ { smallCfg with depackTimeout := 2 }.depackTimeout) :=
  ⟨⟨by simp, by simp⟩, ⟨by simp, by simp⟩, by decide, by decide, by simp, by decide, by decide⟩

/-- For SenderEmitsOnePacket, ReceiverPairsWords and WidthConversionFidelity: a record that fills
`tls.q`, its final lane half enabled. -/
theorem witness_records :
    let ls : List Lane := [⟨0x2222222211111111, 0xFF, false⟩, ⟨0x0000000055555555, 0x0F, true⟩]
    start.tls = Tls.reset ∧ lastAtEnd ls ∧ wholeRecord ls ∧
    ls.length ≤ start.cfg.tlpTxqDepth ∧ start.cfg.tlpTag ∈ start.cfg.tags ∧
    start.tlr.haveLow = false ∧ ls.flatMap laneHalves ≠ [] ∧
    (ls.flatMap laneHalves).length < 2 ^ 32 :=
  ⟨rfl, ⟨rfl, rfl⟩, ⟨rfl, rfl, rfl, .inr ⟨rfl, by decide⟩⟩, by decide, by decide, rfl, by decide,
    by decide⟩

end Sys2Proof.Tests
end

section
/-! SUPPORT. Events as runs: executing the agenda site by site, and what the step of each site
leaves, said once for every site as the next state in terms of the named updates of Machine/Ops.lean. -/

namespace Sys2Proof.EventLaws

open Sys2Proof.Machine

/-! ### Executing the agenda -/

/-- Executing the first sites of the agenda, one step each, leads from one state to the other. -/
inductive Runs : State → State → Prop
  | refl (s : State) : Runs s s
  | cons {s u t : State} {site : Site} (agenda : s.agenda = site :: u.agenda)
      (first : step s = .next u) (others : Runs u t) : Runs s t

theorem Runs.one {s t : State} {site : Site} {rest : List Site} (ha : s.agenda = site :: rest)
    (hs : step s = .next t) (ht : t.agenda = rest) : Runs s t :=
  .cons (ht ▸ ha) hs (.refl t)

theorem Runs.trans {s t u : State} (h : Runs s t) (k : Runs t u) : Runs s u := by
  induction h with
  | refl => exact k
  | cons ha hs _ ih => exact .cons ha hs (ih k)

theorem run_succ {s u : State} (k : Nat) (hs : step s = .next u) :
    Host.Core.run core (k + 1) s = Host.Core.run core k u := by
  simp only [Host.Core.run, show core.step s = .next u from hs]

/-- A run to an empty agenda is the run of the machine over all its sites. -/
theorem Runs.run_eq {s t : State} (h : Runs s t) (done : t.agenda = []) :
    Host.Core.run core s.agenda.length s = .next t := by
  induction h with
  | refl s => rw [done]; rfl
  | cons ha hs _ ih => rw [ha, List.length_cons, run_succ _ hs, ih done]

/-- What every step of a list of sites keeps holds after all of them. -/
theorem runs_of_keeps {P : State → Prop} {sites : List Site}
    (keeps : ∀ site ∈ sites, ∀ u rest, P u → u.agenda = site :: rest →
      ∃ t, step u = .next t ∧ t.agenda = rest ∧ P t)
    {s : State} {rest : List Site} (hs : P s) (ha : s.agenda = sites ++ rest) :
    ∃ t, Runs s t ∧ t.agenda = rest ∧ P t := by
  induction sites generalizing s with
  | nil => exact ⟨s, .refl s, ha, hs⟩
  | cons site sites ih =>
    obtain ⟨u, hstep, hu, hPu⟩ := keeps site (by simp) s (sites ++ rest) hs ha
    obtain ⟨t, hrun, ht, hPt⟩ := ih (fun x hx => keeps x (by simp [hx])) hPu hu
    exact ⟨t, (Runs.one ha hstep hu).trans hrun, ht, hPt⟩

/-! ### Performing an event -/

/-- The state in which a placed event opens: the input is taken and the event is counted. -/
def opening (s : State) : State := { s with stim := [], now := s.now + 1 }

/-- A core at rest opens the placed event. -/
theorem step_placed {s : State} (e : Event) (h : AtRest s) :
    step { s with stim := [e] } = openEvent (opening s) e := by
  obtain ⟨hagenda, helab⟩ := h
  simp only [step, hagenda, openNext, opening]
  rcases helab with hstarted | htags
  · simp only [hstarted]
    rfl
  · simp only [htags]
    cases s.started <;> rfl

/-- A tick is performed by running the sites that its opening lists. -/
theorem perform_tick {s t : State} {link : Option LinkIn} {sys : Option SysIn}
    (hadm : s.cfg.admitted = true) (h : AtRest s)
    (hrun : Runs (openTick (opening s) link sys) t) (done : t.agenda = []) :
    perform (.tick link sys) s = .next t := by
  have hopen : step { s with stim := [.tick link sys] } =
      .next (openTick (opening s) link sys) := by
    rw [step_placed _ h, openEvent, if_pos (show (opening s).cfg.admitted = true from hadm)]
  rw [perform, hopen]
  exact hrun.run_eq done

/-- A synchroniser step is performed by running its one site. -/
theorem perform_sync {s t : State} {q : CrossFifo} {v f : Nat} (h : AtRest s)
    (hrun : Runs ((opening s).setAgenda [.sync q v f]) t) (done : t.agenda = []) :
    perform (.sync q v f) s = .next t := by
  have hopen : step { s with stim := [.sync q v f] } =
      .next ((opening s).setAgenda [.sync q v f]) := step_placed _ h
  rw [perform, hopen]
  exact hrun.run_eq done

/-! ### The step of each site -/

section
variable {s : State} {rest : List Site}

theorem step_of_selects {site : Site} {i : Instr} (ha : s.agenda = site :: rest)
    (hi : selects s site = .ok i) : step s = exec i (s.setAgenda rest) := by
  have hd : decode site (controlWord s site) = .ok i := hi
  simp only [step, ha, hd]

theorem step_ch {c : ChanId} (ha : s.agenda = .ch c :: rest) :
    step s = .next ((s.setAgenda rest).setXfer c ((s.handshakeOf c).1 && (s.handshakeOf c).2)) := by
  rw [step_of_selects ha (selects_ch s c)]
  cases (s.handshakeOf c).1
  · rfl
  · cases (s.handshakeOf c).2 <;> rfl

theorem step_rxq (ha : s.agenda = .fq .rxq :: rest) :
    step s = .next ((s.setAgenda rest).setRxq (nextFifo s.rxq
      (s.sy.dpkSink.xfer && sourceValid s.rxq)
      (if s.lk.rxqSink.xfer && sinkReady s.rxq s.cfg.rxqDepth then some s.lk.rxqSink.pay
        else none))) := by
  rw [step_of_selects ha (selects_rxq s)]
  cases s.lk.rxqSink.xfer && sinkReady s.rxq s.cfg.rxqDepth <;>
    cases s.sy.dpkSink.xfer && sourceValid s.rxq <;> rfl

theorem step_txq (ha : s.agenda = .fq .txq :: rest) :
    step s = .next ((s.setAgenda rest).setTxq (nextFifo s.txq
      (s.lk.txqSource.xfer && sourceValid s.txq)
      (if s.sy.pktSource.xfer && sinkReady s.txq s.cfg.txqDepth then some s.sy.pktSource.pay.data
        else none))) := by
  rw [step_of_selects ha (selects_txq s)]
  cases s.sy.pktSource.xfer && sinkReady s.txq s.cfg.txqDepth <;>
    cases s.lk.txqSource.xfer && sourceValid s.txq <;> rfl

theorem step_sync {q : CrossFifo} {v f : Nat} (ha : s.agenda = .sync q v f :: rest) :
    step s = .next ((s.setAgenda rest).fifoSync q v f) :=
  step_of_selects ha (selects_sync s q v f)

theorem step_rstLink (ha : s.agenda = .rstLink :: rest) (h : s.lk.rst = true) :
    step s = .next (resetLinkDomain (s.setAgenda rest)) :=
  step_of_selects ha (selects_rstLink s h)

theorem step_rstSys (ha : s.agenda = .rstSys :: rest) (h : s.sy.rst = true) :
    step s = .next (resetSysDomain (s.setAgenda rest)) :=
  step_of_selects ha (selects_rstSys s h)

/-- The Link-Bus FSM goes to a state and counts its dwell. -/
theorem step_lbf (ha : s.agenda = .lbf :: rest) :
    ∃ st, step s = .next (lbfTick st (s.setAgenda rest)) := by
  rw [step_of_selects ha (selects_lbf s)]
  cases s.lbf.st <;> dsimp only <;> (repeat' split) <;> exact ⟨_, rfl⟩

/-- The Packetizer writes `pkt` alone. -/
theorem step_pkt (ha : s.agenda = .pkt :: rest) (h : s.pkt.st ≠ .insertHeader → s.pkt.hidx = 0) :
    ∃ p, step s = .next ((drivePkt (s.setAgenda rest)).setPkt p) := by
  rw [step_of_selects ha (selects_pkt s h)]
  cases s.pkt.st <;> dsimp only <;> (repeat' split) <;> exact ⟨_, rfl⟩

/-- The TLP Receiver writes `tlr` alone. -/
theorem step_tlr (ha : s.agenda = .tlr :: rest) :
    ∃ v, step s = .next ((driveTlr (s.setAgenda rest)).setTlr v) := by
  rw [step_of_selects ha (selects_tlr s)]
  dsimp only
  (repeat' split) <;> exact ⟨_, rfl⟩

/-- The TLP Sender writes `tls` alone. -/
theorem step_tls (ha : s.agenda = .tls :: rest)
    (h : s.tls.st = .send → s.tls.half = false → headHasUpper s = true → tlsLastWord s = false) :
    ∃ v, step s = .next ((driveTls (s.setAgenda rest)).setTls v) := by
  rw [step_of_selects ha (selects_tls s h)]
  cases s.tls.st <;> dsimp only <;> (repeat' split) <;> exact ⟨_, rfl⟩

/-- The arbiter half writes the grant and the lock of `xbar`. -/
theorem step_xa (ha : s.agenda = .xa :: rest) :
    ∃ x, x.unroutedCount = s.xbar.unroutedCount ∧
      step s = .next ((driveXa (s.setAgenda rest)).setXbar x) := by
  rw [step_of_selects ha (selects_xa s)]
  dsimp only
  (repeat' split) <;> exact ⟨_, by rfl, rfl⟩

end

/-! ### The Depacketizer, the frame word and the dispatch half -/

section
variable {s : State} {rest : List Site}

/-- A raised timeout abort on top of a Depacketizer tick whose timer is spent: the pulse stands on
the wires already (R195, R332). -/
theorem raiseCause_timeoutAbort_dpkTick (h : timerDone s = true) :
    raiseCause .timeoutAbort (dpkTick s) = .next ((driveDpk s).setDpk { (dpkTick s).dpk with
      st := .idle, hcnt := false, abortCount := s.dpk.abortCount + 1 }) := by
  have hevt : (dpkTick s).sy.abortEvt = true := h
  have hsy : { (dpkTick s).sy with abortEvt := true } = (dpkTick s).sy := by rw [← hevt]
  simp only [raiseCause, hsy]
  rfl

theorem step_dpk_of_timerDone (ha : s.agenda = .dpk :: rest) (h : timerDone s = true) :
    step s = .next ((driveDpk (s.setAgenda rest)).setDpk { (dpkTick s).dpk with
      st := .idle, hcnt := false, abortCount := s.dpk.abortCount + 1 }) := by
  rw [step_of_selects ha (selects_dpk s)]
  cases hst : s.dpk.st with
  | idle => exact absurd h (by simp [timerDone, hst])
  | receiveHeader =>
    simp only [h, if_true]
    exact raiseCause_timeoutAbort_dpkTick (s := s.setAgenda rest) h
  | copy =>
    simp only [h, if_true]
    exact raiseCause_timeoutAbort_dpkTick (s := s.setAgenda rest) h

theorem step_dpk_of_not_timerDone (ha : s.agenda = .dpk :: rest) (h : timerDone s = false) :
    ∃ d : Dpk, d.abortCount = s.dpk.abortCount ∧
      step s = .next ((driveDpk (s.setAgenda rest)).setDpk d) := by
  rw [step_of_selects ha (selects_dpk s)]
  cases s.dpk.st <;> simp only [h, Bool.false_eq_true, if_false] <;> (repeat' split) <;>
    exact ⟨_, by rfl, rfl⟩

/-- The Depacketizer writes `dpk` alone, and counts an abort exactly if its timer is spent. -/
theorem step_dpk (ha : s.agenda = .dpk :: rest) :
    ∃ d : Dpk, d.abortCount = s.dpk.abortCount + (if timerDone s then 1 else 0) ∧
      step s = .next ((driveDpk (s.setAgenda rest)).setDpk d) := by
  cases h : timerDone s with
  | true => exact ⟨_, rfl, step_dpk_of_timerDone ha h⟩
  | false => simpa using step_dpk_of_not_timerDone ha h

/-- A word of a frame writes `dst_r` or `len_r`, or the part of a wire that is no control signal. -/
theorem step_lp {k : FramePos} (ha : s.agenda = .lp k :: rest)
    (hk : k = .w0 → s.sy.dpkSink.pay = preamble) :
    ∃ (d : Dpk) (w : SysWires), d.abortCount = s.dpk.abortCount ∧
      (xdOffer s w).unroutedEvt = (xdOffer s s.sy).unroutedEvt ∧
      step s = .next (((s.setAgenda rest).setDpk d).setSy w) := by
  cases k with
  | w0 =>
    rw [step_of_selects ha (selects_lp_w0 s (hk rfl))]
    exact ⟨s.dpk, { s.sy with pm := true }, rfl, rfl, rfl⟩
  | w1 =>
    rw [step_of_selects ha (i := .lpW1 _ _) rfl]
    exact ⟨{ s.dpk with dstR := tagField s.sy.dpkSink.pay }, s.sy, rfl, rfl, rfl⟩
  | w2 =>
    rw [step_of_selects ha (i := .lpW2 _) rfl]
    exact ⟨{ s.dpk with lenR := s.sy.dpkSink.pay }, s.sy, rfl, rfl, rfl⟩
  | payload =>
    rw [step_of_selects ha (i := .lpPayload _) rfl]
    exact ⟨s.dpk, _, rfl, by rfl, rfl⟩

theorem unroutedEvt_xdOffer (s : State) : (xdOffer s s.sy).unroutedEvt =
    (s.sy.dpkSource.valid && noHit s && s.sy.dpkSource.pay.last) := rfl

theorem step_xd_of_unrouted (ha : s.agenda = .xd :: rest)
    (h : (xdOffer s s.sy).unroutedEvt = true) :
    step s = .next ((driveXd (s.setAgenda rest)).setXbar
      { s.xbar with unroutedCount := s.xbar.unroutedCount + 1 }) := by
  have hsy : { (driveXd (s.setAgenda rest)).sy with unroutedEvt := true } =
      (driveXd (s.setAgenda rest)).sy := by
    have hevt : (driveXd (s.setAgenda rest)).sy.unroutedEvt = true := h
    rw [← hevt]
  rw [step_of_selects ha (selects_xd s)]
  simp only [unroutedEvt_xdOffer, Bool.and_eq_true] at h
  obtain ⟨⟨hvalid, hnohit⟩, hlast⟩ := h
  simp only [hvalid, hnohit, hlast, if_true, exec, execXdDropLast, raiseCause, hsy]
  rfl

theorem step_xd_of_not_unrouted (ha : s.agenda = .xd :: rest)
    (h : (xdOffer s s.sy).unroutedEvt = false) :
    step s = .next (driveXd (s.setAgenda rest)) := by
  rw [step_of_selects ha (selects_xd s)]
  rw [unroutedEvt_xdOffer] at h
  cases hvalid : s.sy.dpkSource.valid with
  | false => rfl
  | true =>
    cases hnohit : noHit s with
    | false => cases hready : hitReady s <;> rfl
    | true =>
      have hlast : s.sy.dpkSource.pay.last = false := by simpa [hvalid, hnohit] using h
      simp only [hlast]
      rfl

/-- The dispatch half counts an unrouted packet exactly if its pulse is 1 (R232, R237, R333). -/
theorem step_xd (ha : s.agenda = .xd :: rest) :
    ∃ x : Xbar, x.unroutedCount = s.xbar.unroutedCount +
        (if (xdOffer s s.sy).unroutedEvt then 1 else 0) ∧
      step s = .next ((driveXd (s.setAgenda rest)).setXbar x) := by
  cases h : (xdOffer s s.sy).unroutedEvt with
  | true => exact ⟨_, rfl, step_xd_of_unrouted ha h⟩
  | false => exact ⟨s.xbar, by simp, step_xd_of_not_unrouted ha h⟩

end

end Sys2Proof.EventLaws
end

section
/-! SUPPORT. A tick in its parts: the link domain's sites and the cross-domain FIFOs, which leave
the system components alone, and the system domain's sites, which count the two event pulses. -/

namespace Sys2Proof.EventLaws

open Sys2Proof.Machine

/-! ### The two resets -/

section
variable (s : State)

@[simp] theorem resetLinkDomain_cfg : (resetLinkDomain s).cfg = s.cfg := by rw [resetLinkDomain_eq]
@[simp] theorem resetLinkDomain_lk :
    (resetLinkDomain s).lk = { LinkWires.off with rst := true } := by rw [resetLinkDomain_eq]
@[simp] theorem resetLinkDomain_sy : (resetLinkDomain s).sy = s.sy := by rw [resetLinkDomain_eq]
@[simp] theorem resetLinkDomain_agenda : (resetLinkDomain s).agenda = s.agenda := by
  rw [resetLinkDomain_eq]
@[simp] theorem resetLinkDomain_started : (resetLinkDomain s).started = s.started := by
  rw [resetLinkDomain_eq]
@[simp] theorem resetLinkDomain_linkHeld : (resetLinkDomain s).linkHeld = s.linkHeld := by
  rw [resetLinkDomain_eq]

@[simp] theorem resetSysDomain_cfg : (resetSysDomain s).cfg = s.cfg := by rw [resetSysDomain_eq]
@[simp] theorem resetSysDomain_lk : (resetSysDomain s).lk = s.lk := by rw [resetSysDomain_eq]
@[simp] theorem resetSysDomain_sy :
    (resetSysDomain s).sy = { SysWires.off with rst := true } := by rw [resetSysDomain_eq]
@[simp] theorem resetSysDomain_agenda : (resetSysDomain s).agenda = s.agenda := by
  rw [resetSysDomain_eq]
@[simp] theorem resetSysDomain_started : (resetSysDomain s).started = s.started := by
  rw [resetSysDomain_eq]
@[simp] theorem resetSysDomain_sysHeld : (resetSysDomain s).sysHeld = s.sysHeld := by
  rw [resetSysDomain_eq]
@[simp] theorem resetSysDomain_dpk : (resetSysDomain s).dpk = Dpk.reset s.cfg := by
  rw [resetSysDomain_eq]
@[simp] theorem resetSysDomain_xbar : (resetSysDomain s).xbar = Xbar.reset := by
  rw [resetSysDomain_eq]

end

section
variable {s : State}

theorem Runs.rstLink {u : State} {rest : List Site} (h : Runs u s)
    (ha : s.agenda = .rstLink :: rest) (hrst : s.lk.rst = true) :
    Runs u (resetLinkDomain (s.setAgenda rest)) :=
  h.trans (.one ha (step_rstLink ha hrst) (by simp))

theorem Runs.rstSys {u : State} {rest : List Site} (h : Runs u s)
    (ha : s.agenda = .rstSys :: rest) (hrst : s.sy.rst = true) :
    Runs u (resetSysDomain (s.setAgenda rest)) :=
  h.trans (.one ha (step_rstSys ha hrst) (by simp))

end

/-! ### Sites that leave the system domain's components alone -/

/-- The channels, the Link-Bus FSM and its reset, the cross-domain FIFOs and their synchronisers:
the sites whose operations write no register of a system component. -/
def sparesSys : Site → Bool
  | .ch _ | .lbf | .rstLink | .fq .rxq | .fq .txq | .sync _ _ _ => true
  | _ => false

/-- The configuration, the components of the system domain and what the word on `dpk.sink` says are
the same in both states. -/
structure SysKept (s t : State) : Prop where
  cfg       : t.cfg = s.cfg
  pkt       : t.pkt = s.pkt
  dpk       : t.dpk = s.dpk
  xbar      : t.xbar = s.xbar
  tls       : t.tls = s.tls
  linkRst   : t.lk.rst = s.lk.rst
  sysRst    : t.sy.rst = s.sy.rst
  sinkValid : t.sy.dpkSink.valid = s.sy.dpkSink.valid
  sinkPay   : t.sy.dpkSink.pay = s.sy.dpkSink.pay

theorem SysKept.refl (s : State) : SysKept s s := ⟨rfl, rfl, rfl, rfl, rfl, rfl, rfl, rfl, rfl⟩

theorem SysKept.trans {s t u : State} (h : SysKept s t) (k : SysKept t u) : SysKept s u :=
  ⟨k.cfg.trans h.cfg, k.pkt.trans h.pkt, k.dpk.trans h.dpk, k.xbar.trans h.xbar, k.tls.trans h.tls,
    k.linkRst.trans h.linkRst, k.sysRst.trans h.sysRst, k.sinkValid.trans h.sinkValid,
    k.sinkPay.trans h.sinkPay⟩

theorem setXfer_dpkSink_valid (s : State) (c : ChanId) (x : Bool) :
    (s.setXfer c x).sy.dpkSink.valid = s.sy.dpkSink.valid := by cases c <;> rfl

section
variable {s : State} {rest : List Site}

theorem step_sparesSys {site : Site} (ha : s.agenda = site :: rest) (h : sparesSys site = true)
    (hrst : site = .rstLink → s.lk.rst = true) :
    ∃ t, step s = .next t ∧ t.agenda = rest ∧ SysKept s t := by
  cases site with
  | ch c =>
    refine ⟨_, step_ch ha, by simp, ?_⟩
    constructor <;> simp [setXfer_dpkSink_valid]
  | lbf =>
    obtain ⟨st, hst⟩ := step_lbf ha
    exact ⟨_, hst, rfl, ⟨rfl, rfl, rfl, rfl, rfl, rfl, rfl, rfl, rfl⟩⟩
  | rstLink =>
    have hlk := hrst rfl
    refine ⟨_, step_rstLink ha hlk, ?_, ?_⟩
    · simp
    · rw [resetLinkDomain_eq]
      exact ⟨rfl, rfl, rfl, rfl, rfl, hlk.symm, rfl, rfl, rfl⟩
  | fq q =>
    cases q with
    | rxq => exact ⟨_, step_rxq ha, rfl, ⟨rfl, rfl, rfl, rfl, rfl, rfl, rfl, rfl, rfl⟩⟩
    | txq => exact ⟨_, step_txq ha, rfl, ⟨rfl, rfl, rfl, rfl, rfl, rfl, rfl, rfl, rfl⟩⟩
    | tlsq => exact absurd h (by decide)
  | sync q v f =>
    cases q <;> exact ⟨_, step_sync ha, rfl, ⟨rfl, rfl, rfl, rfl, rfl, rfl, rfl, rfl, rfl⟩⟩
  | _ => exact absurd h (by simp [sparesSys])

theorem runs_sparesSys {sites : List Site} (ha : s.agenda = sites ++ rest)
    (h : ∀ site ∈ sites, sparesSys site = true) (hrst : .rstLink ∈ sites → s.lk.rst = true) :
    ∃ t, Runs s t ∧ t.agenda = rest ∧ SysKept s t := by
  refine runs_of_keeps (fun site hsite u rest' hu hau => ?_) (SysKept.refl s) ha
  obtain ⟨t, hstep, ht, hkept⟩ := step_sparesSys hau (h site hsite) fun he =>
    hu.linkRst.trans (hrst (he ▸ hsite))
  exact ⟨t, hstep, ht, hu.trans hkept⟩

/-- The sites of the link domain in a tick. -/
def linkSitesOf (link : Option LinkIn) : List Site := (link.map linkSites).getD []

theorem sparesSys_linkSitesOf (link : Option LinkIn) :
    ∀ site ∈ linkSitesOf link, sparesSys site = true := by
  cases link with
  | none => simp [linkSitesOf]
  | some i =>
    cases h : i.rst <;> simp [linkSitesOf, linkSites, linkChannels, h, sparesSys]

theorem rst_of_rstLink_mem (s : State) (link : Option LinkIn) (h : .rstLink ∈ linkSitesOf link) :
    (linkWiresOf s link).rst = true := by
  cases link with
  | none => exact absurd h (by simp [linkSitesOf])
  | some i =>
    cases hi : i.rst with
    | true => simp [linkWiresOf, settleLink, hi]
    | false => exact absurd h (by simp [linkSitesOf, linkSites, linkChannels, hi])

/-- The sites of the system domain in a tick, on the state that the tick opens. -/
def sysSitesOf (u : State) (sys : Option SysIn) : List Site := (sys.map (sysSites u)).getD []

theorem openTick_agenda (link : Option LinkIn) (sys : Option SysIn) :
    (openTick s link sys).agenda =
      linkSitesOf link ++ (sysSitesOf (openTick s link sys) sys ++ fifoSites) := by
  cases link <;> cases sys <;> exact List.append_assoc _ _ _

theorem sparesSys_fifoSites : ∀ site ∈ fifoSites, sparesSys site = true := by
  simp [fifoSites, sparesSys]

/-- The link domain's part of a tick. -/
theorem runs_linkSites (link : Option LinkIn) (sys : Option SysIn) :
    ∃ t, Runs (openTick s link sys) t ∧
      t.agenda = sysSitesOf (openTick s link sys) sys ++ fifoSites ∧
      SysKept (openTick s link sys) t :=
  runs_sparesSys (openTick_agenda link sys) (sparesSys_linkSitesOf link) fun h => by
    rw [openTick_lk]
    exact rst_of_rstLink_mem s link h

/-- The cross-domain FIFOs' part of a tick. -/
theorem runs_fifoSites (ha : s.agenda = fifoSites) :
    ∃ t, Runs s t ∧ t.agenda = [] ∧ SysKept s t :=
  runs_sparesSys (ha.trans (List.append_nil _).symm) sparesSys_fifoSites (by simp [fifoSites])


/-! ### The system domain's part of a tick -/

/-- The channels' part of a tick. -/
theorem runs_channels {rest : List Site} {cs : List ChanId} (ha : s.agenda = cs.map .ch ++ rest) :
    ∃ t, Runs s t ∧ t.agenda = rest ∧ SysKept s t :=
  runs_sparesSys ha (by simp [sparesSys]) (by simp)

/-- `xbar.unrouted_evt` of a tick, by the registers and the `valid` of `dpk.sink` (R195, R232). -/
def unroutedPulse (s : State) (sinkValid : Bool) : Bool :=
  dpkForwards s && sinkValid && (hitPort s.cfg s.dpk.dstR).isNone && dpkLastWord s

theorem unroutedEvt_dpkOffer (s : State) (w : SysWires) :
    (xdOffer s (dpkOffer s w)).unroutedEvt = unroutedPulse s w.dpkSink.valid := by
  cases h : dpkForwards s <;> simp [xdOffer, dpkOffer, unroutedPulse, offer, dpkWord, h]

theorem unroutedPulse_congr {s t : State} (hcfg : t.cfg = s.cfg) (hdpk : t.dpk = s.dpk)
    (v : Bool) : unroutedPulse t v = unroutedPulse s v := by
  simp only [unroutedPulse, dpkForwards, timerDone, dpkLastWord, effLen, hcfg, hdpk]

theorem timerDone_congr {s t : State} (hdpk : t.dpk = s.dpk) : timerDone t = timerDone s := by
  simp only [timerDone, hdpk]

/-- The pulses of a settled tick. -/
theorem settleSys_pulses {i : SysIn} (h : i.rst = false) :
    (settleSys s i).abortEvt = timerDone s ∧
    (settleSys s i).unroutedEvt = unroutedPulse s (sourceValid s.rxq) ∧
    (settleSys s i).dpkSink.valid = sourceValid s.rxq := by
  rw [settleSys, h]
  exact ⟨rfl, unroutedEvt_dpkOffer s (sysInputs s i), rfl⟩

/-- At most one word of a frame is read in a tick; as `W0` only the preamble (R95). -/
theorem frameSite_cases (u : State) : frameSite u = [] ∨
    ∃ k, frameSite u = [.lp k] ∧ (k = .w0 → u.sy.dpkSink.pay = preamble) := by
  unfold frameSite framePos
  split
  · cases u.dpk.st with
    | idle =>
      by_cases hp : u.sy.dpkSink.pay = preamble
      · exact .inr ⟨.w0, by simp [hp], fun _ => hp⟩
      · exact .inl (by simp [hp])
    | receiveHeader =>
      cases u.dpk.hcnt
      · exact .inr ⟨.w1, rfl, by simp⟩
      · exact .inr ⟨.w2, rfl, by simp⟩
    | copy => exact .inr ⟨.payload, rfl, by simp⟩
  · exact .inl rfl

/-- The frame word's part of a tick. -/
theorem runs_frameSite {u : State} {rest : List Site} (ha : s.agenda = frameSite u ++ rest)
    (hpay : s.sy.dpkSink.pay = u.sy.dpkSink.pay) :
    ∃ (d : Dpk) (w : SysWires), d.abortCount = s.dpk.abortCount ∧
      (xdOffer s w).unroutedEvt = (xdOffer s s.sy).unroutedEvt ∧
      Runs s (((s.setAgenda rest).setDpk d).setSy w) := by
  rcases frameSite_cases u with hnone | ⟨k, hk, hw0⟩
  · rw [hnone] at ha
    subst ha
    exact ⟨s.dpk, s.sy, rfl, rfl, .refl s⟩
  · rw [hk] at ha
    obtain ⟨d, w, hd, hw, hstep⟩ := step_lp ha fun h => hpay.trans (hw0 h)
    exact ⟨d, w, hd, hw, .one ha hstep rfl⟩

/-- A sender that keeps R276 presents no unreachable word: a head lane with an upper half still to
send is not the final word (R275). -/
theorem TlsInv.lastWord_eq_false {depth : Nat} (h : TlsInv depth s.tls) (hst : s.tls.st = .send)
    (hhalf : s.tls.half = false) (hupper : headHasUpper s = true) : tlsLastWord s = false := by
  simp only [TlsInv, hst] at h
  obtain ⟨hne, -, hsum, -, -⟩ := h
  obtain ⟨l, q, hq⟩ := List.exists_cons_of_ne_nil hne
  rw [headHasUpper_cons hq, beq_iff_eq] at hupper
  simp only [hq, queuedWords, hupper, hhalf, Bool.toNat_false] at hsum
  simp only [tlsLastWord, beq_eq_false_iff_ne]
  omega

/-! A run goes on with the component that is next. -/

theorem Runs.xd {u : State} {rest : List Site} (h : Runs u s) (ha : s.agenda = .xd :: rest) :
    ∃ x : Xbar, x.unroutedCount = s.xbar.unroutedCount +
        (if (xdOffer s s.sy).unroutedEvt then 1 else 0) ∧
      Runs u ((driveXd (s.setAgenda rest)).setXbar x) := by
  obtain ⟨x, hx, hstep⟩ := step_xd ha
  exact ⟨x, hx, h.trans (.one ha hstep rfl)⟩

theorem Runs.tlr {u : State} {rest : List Site} (h : Runs u s) (ha : s.agenda = .tlr :: rest) :
    ∃ v, Runs u ((driveTlr (s.setAgenda rest)).setTlr v) := by
  obtain ⟨v, hstep⟩ := step_tlr ha
  exact ⟨v, h.trans (.one ha hstep rfl)⟩

theorem Runs.tls {u : State} {rest : List Site} {depth : Nat} (h : Runs u s)
    (ha : s.agenda = .tls :: rest) (hinv : TlsInv depth s.tls) :
    ∃ v, Runs u ((driveTls (s.setAgenda rest)).setTls v) := by
  obtain ⟨v, hstep⟩ := step_tls ha (TlsInv.lastWord_eq_false hinv)
  exact ⟨v, h.trans (.one ha hstep rfl)⟩

theorem Runs.xa {u : State} {rest : List Site} (h : Runs u s) (ha : s.agenda = .xa :: rest) :
    ∃ x : Xbar, x.unroutedCount = s.xbar.unroutedCount ∧
      Runs u ((driveXa (s.setAgenda rest)).setXbar x) := by
  obtain ⟨x, hx, hstep⟩ := step_xa ha
  exact ⟨x, hx, h.trans (.one ha hstep rfl)⟩

theorem Runs.pkt {u : State} {rest : List Site} (h : Runs u s) (ha : s.agenda = .pkt :: rest)
    (hidx : s.pkt.st ≠ .insertHeader → s.pkt.hidx = 0) :
    ∃ p, Runs u ((drivePkt (s.setAgenda rest)).setPkt p) := by
  obtain ⟨p, hstep⟩ := step_pkt ha hidx
  exact ⟨p, h.trans (.one ha hstep rfl)⟩

/-- The part of the components after the Depacketizer: the dispatch half counts its pulse, the
others count nothing. -/
theorem runs_components {depth : Nat} {rest : List Site}
    (ha : s.agenda = .xd :: .tlr :: .tls :: .xa :: .pkt :: rest)
    (hidx : s.pkt.st ≠ .insertHeader → s.pkt.hidx = 0) (htls : TlsInv depth s.tls) :
    ∃ t, Runs s t ∧ t.agenda = rest ∧ t.dpk = s.dpk ∧
      t.xbar.unroutedCount = s.xbar.unroutedCount +
        (if (xdOffer s s.sy).unroutedEvt then 1 else 0) := by
  obtain ⟨x, hx, r⟩ := (Runs.refl s).xd ha
  obtain ⟨_, r⟩ := r.tlr rfl
  obtain ⟨_, r⟩ := r.tls rfl (by simpa using htls)
  obtain ⟨y, hy, r⟩ := r.xa rfl
  obtain ⟨_, r⟩ := r.pkt rfl (by simpa using hidx)
  refine ⟨_, r, by simp, by simp, ?_⟩
  simpa [hy] using hx

/-- The Depacketizer leaves the pulse of the dispatch half on the wires. -/
theorem Runs.dpk {u : State} {rest : List Site} (h : Runs u s) (ha : s.agenda = .dpk :: rest) :
    ∃ t, Runs u t ∧ t.agenda = rest ∧ t.cfg = s.cfg ∧ t.pkt = s.pkt ∧ t.xbar = s.xbar ∧
      t.tls = s.tls ∧ t.sy.dpkSink.pay = s.sy.dpkSink.pay ∧
      t.dpk.abortCount = s.dpk.abortCount + (if timerDone s then 1 else 0) ∧
      (xdOffer t t.sy).unroutedEvt = unroutedPulse s s.sy.dpkSink.valid := by
  obtain ⟨d, hd, hstep⟩ := step_dpk ha
  exact ⟨_, h.trans (.one ha hstep rfl), rfl, rfl, rfl, rfl, rfl, rfl, hd,
    unroutedEvt_dpkOffer (s.setAgenda rest) s.sy⟩

/-- The system domain's part of a tick without reset: both counters count their pulses. -/
theorem runs_sysSites {depth : Nat} {u : State} {i : SysIn} {rest : List Site}
    (hrst : i.rst = false) (ha : s.agenda = sysSites u i ++ rest) (hpay : s.sy.dpkSink.pay = u.sy.dpkSink.pay)
    (hidx : s.pkt.st ≠ .insertHeader → s.pkt.hidx = 0) (htls : TlsInv depth s.tls) :
    ∃ t, Runs s t ∧ t.agenda = rest ∧
      t.dpk.abortCount = s.dpk.abortCount + (if timerDone s then 1 else 0) ∧
      t.xbar.unroutedCount = s.xbar.unroutedCount +
        (if unroutedPulse s s.sy.dpkSink.valid then 1 else 0) := by
  simp only [sysSites, hrst, Bool.false_eq_true, if_false, List.append_assoc, List.cons_append,
    List.nil_append] at ha
  obtain ⟨c, rc, hc, kept⟩ := runs_channels ha
  obtain ⟨d, rd, hagenda, -, hpkt, hxbar, htlsd, hpayd, habort, hpulse⟩ := rc.dpk hc
  obtain ⟨e, w, he, hw, re⟩ := runs_frameSite hagenda (hpayd.trans (kept.sinkPay.trans hpay))
  obtain ⟨t, rt, ht, hdpk, hcount⟩ := runs_components
    (s := ((d.setAgenda (.xd :: .tlr :: .tls :: .xa :: .pkt :: rest)).setDpk e).setSy w) rfl
    (by simpa [hpkt, kept.pkt] using hidx) (by simpa [htlsd, kept.tls] using htls)
  have hwires : (xdOffer d w).unroutedEvt = unroutedPulse s s.sy.dpkSink.valid := by
    rw [hw, hpulse, unroutedPulse_congr kept.cfg kept.dpk, kept.sinkValid]
  refine ⟨t, rd.trans (re.trans rt), ht, ?_, ?_⟩
  · calc t.dpk.abortCount = e.abortCount := by rw [hdpk]; rfl
      _ = c.dpk.abortCount + (if timerDone c then 1 else 0) := he.trans habort
      _ = _ := by rw [kept.dpk, timerDone_congr kept.dpk]
  · calc t.xbar.unroutedCount
        = d.xbar.unroutedCount + (if (xdOffer d w).unroutedEvt then 1 else 0) := hcount
      _ = _ := by rw [hwires, hxbar, kept.xbar]

end

end Sys2Proof.EventLaws
end

section
/-! The statement on the event counters. -/

namespace Sys2Proof.EventLaws

open Sys2Proof.Machine

section
variable (s : State) (link : Option LinkIn) (sys : Option SysIn)

@[simp] theorem openTick_pkt : (openTick s link sys).pkt = s.pkt :=
  congrArg Regs.pkt (openTick_regs s link sys)
@[simp] theorem openTick_dpk : (openTick s link sys).dpk = s.dpk :=
  congrArg Regs.dpk (openTick_regs s link sys)
@[simp] theorem openTick_xbar : (openTick s link sys).xbar = s.xbar :=
  congrArg Regs.xbar (openTick_regs s link sys)
@[simp] theorem openTick_tls : (openTick s link sys).tls = s.tls :=
  congrArg Regs.tls (openTick_regs s link sys)

end

section
variable {s : State}

/-- A system tick without reset. -/
theorem perform_sysTick_counts (hinv : Inv s) (h : AtRest s) (link : Option LinkIn) {i : SysIn}
    (hrst : i.rst = false) :
    ∃ t, perform (.tick link (some i)) s = .next t ∧
      t.dpk.abortCount = s.dpk.abortCount + (if (settleSys s i).abortEvt then 1 else 0) ∧
      t.xbar.unroutedCount =
        s.xbar.unroutedCount + (if (settleSys s i).unroutedEvt then 1 else 0) := by
  obtain ⟨c, rc, hc, kept⟩ := runs_linkSites (s := opening s) link (some i)
  have hpkt : c.pkt = s.pkt := kept.pkt.trans (openTick_pkt _ _ _)
  have htls : c.tls = s.tls := kept.tls.trans (openTick_tls _ _ _)
  have hdpk : c.dpk = s.dpk := kept.dpk.trans (openTick_dpk _ _ _)
  have hxbar : c.xbar = s.xbar := kept.xbar.trans (openTick_xbar _ _ _)
  have hcfg : c.cfg = s.cfg := kept.cfg.trans (openTick_cfg _ _ _)
  obtain ⟨habort, hunrouted, -⟩ := settleSys_pulses (s := s) hrst
  have hvalid : c.sy.dpkSink.valid = sourceValid s.rxq := by
    rw [kept.sinkValid, openTick_sy]
    exact (settleSys_pulses (s := opening s) hrst).2.2
  obtain ⟨t, rt, ht, htabort, htcount⟩ := runs_sysSites hrst hc kept.sinkPay
    (by simpa only [hpkt] using hinv.hidx) (by simpa only [htls] using hinv.tls)
  obtain ⟨f, rf, hf, keptf⟩ := runs_fifoSites ht
  refine ⟨f, perform_tick hinv.admitted h (rc.trans (rt.trans rf)) hf, ?_, ?_⟩
  · rw [keptf.dpk, htabort, timerDone_congr hdpk, hdpk, habort]
  · rw [keptf.xbar, htcount, hvalid, unroutedPulse_congr hcfg hdpk, hxbar, hunrouted]

/-- A reset tick of the system domain. -/
theorem perform_sysReset_counts (hadm : s.cfg.admitted = true) (h : AtRest s)
    (link : Option LinkIn) {i : SysIn} (hrst : i.rst = true) :
    ∃ t, perform (.tick link (some i)) s = .next t ∧
      t.dpk.abortCount = 0 ∧ t.xbar.unroutedCount = 0 := by
  obtain ⟨c, rc, hc, kept⟩ := runs_linkSites (s := opening s) link (some i)
  have hsites : c.agenda = .rstSys :: fifoSites := by
    rw [hc, sysSitesOf, Option.map_some, Option.getD_some, sysSites, if_pos hrst]
    rfl
  have hsy : c.sy.rst = true := by
    rw [kept.sysRst, openTick_sy, sysWiresOf, settleSys, if_pos hrst]
  obtain ⟨f, rf, hf, keptf⟩ :=
    runs_fifoSites (s := resetSysDomain (c.setAgenda fifoSites)) (resetSysDomain_agenda _)
  refine ⟨f, perform_tick hadm h ((rc.rstSys hsites hsy).trans rf) hf, ?_, ?_⟩
  · rw [keptf.dpk, resetSysDomain_dpk]
    rfl
  · rw [keptf.xbar, resetSysDomain_xbar]
    rfl

/-- An event in which the system domain does not tick leaves its components alone. -/
theorem perform_noSysTick (hadm : s.cfg.admitted = true) (h : AtRest s) {e : Event}
    (he : ticksSys e = false) :
    ∃ t, perform e s = .next t ∧ t.dpk = s.dpk ∧ t.xbar = s.xbar := by
  cases e with
  | sync q v f =>
    obtain ⟨t, rt, ht, kept⟩ := runs_sparesSys (s := (opening s).setAgenda [.sync q v f])
      (rest := []) (sites := [.sync q v f]) rfl (by simp [sparesSys]) (by simp)
    exact ⟨t, perform_sync h rt ht, kept.dpk, kept.xbar⟩
  | tick link sys =>
    cases sys with
    | some i => exact absurd he (by simp [ticksSys])
    | none =>
      obtain ⟨c, rc, hc, kept⟩ := runs_linkSites (s := opening s) link none
      obtain ⟨f, rf, hf, keptf⟩ := runs_fifoSites hc
      refine ⟨f, perform_tick hadm h (rc.trans rf) hf, ?_, ?_⟩
      · rw [keptf.dpk, kept.dpk, openTick_dpk]
        rfl
      · rw [keptf.xbar, kept.xbar, openTick_xbar]
        rfl

end

/-- Settles O50: the Depacketizer's operation counts the abort pulse, the dispatch half's the
unrouted pulse, and no other site writes a counter. -/
theorem countersCountPulses : Obligations.CountersCountPulses := by
  intro s hinv h
  refine ⟨fun link i hrst => perform_sysTick_counts hinv h link hrst,
    fun link i hrst => perform_sysReset_counts hinv.admitted h link hrst, fun e he => ?_⟩
  obtain ⟨t, ht, hdpk, hxbar⟩ := perform_noSysTick hinv.admitted h he
  exact ⟨t, ht, by rw [hdpk], by rw [hxbar]⟩

end Sys2Proof.EventLaws
end

section
/-! The statement on the reset of both domains. -/

namespace Sys2Proof.EventLaws

open Sys2Proof.Machine

section
variable {s : State}

/-- Where all wires but the reset inputs are off, both cross-domain FIFOs keep their contents. -/
theorem runs_fifoSites_off {rl rs : Bool} (ha : s.agenda = fifoSites)
    (hlk : s.lk = { LinkWires.off with rst := rl })
    (hsy : s.sy = { SysWires.off with rst := rs }) : Runs s (s.setAgenda []) := by
  have hrxq : step s = .next (s.setAgenda [.fq .txq]) := by
    rw [step_rxq ha, hlk, hsy]
    rfl
  have htxq : step (s.setAgenda [.fq .txq]) = .next (s.setAgenda []) := by
    rw [step_txq (rest := []) rfl, State.setAgenda_lk, State.setAgenda_sy, hlk, hsy]
    rfl
  exact (Runs.one ha hrxq rfl).trans (.one rfl htxq rfl)

/-- A tick that only resets keeps and extends the interval of asserted resets (R319). -/
theorem openTick_of_resets {link : Option LinkIn} {sys : Option SysIn}
    (h : runsLow link sys = false) :
    (openTick s link sys).linkHeld = (s.linkHeld || link.isSome) ∧
    (openTick s link sys).sysHeld = (s.sysHeld || sys.isSome) := by
  rw [openTick_eq]
  simp [holdResets, h]

end

/-- The registers after the reset of the link domain, by whether the system domain is held. -/
def linkResetRegs (c : Cfg) (r : Regs) (sysHeld : Bool) : Regs :=
  { r with
    lbf := Lbf.reset c
    rxq := if sysHeld then .empty else r.rxq
    txq := if sysHeld then .empty else r.txq }

/-- The registers after the reset of the system domain, by whether the link domain is held. -/
def sysResetRegs (c : Cfg) (r : Regs) (linkHeld : Bool) : Regs :=
  { Regs.reset c with
    lbf := r.lbf
    rxq := if linkHeld then .empty else r.rxq
    txq := if linkHeld then .empty else r.txq }

section
variable (s : State)

theorem resetLinkDomain_regs :
    (resetLinkDomain s).regs = linkResetRegs s.cfg s.regs s.sysHeld := by
  rw [resetLinkDomain_eq]
  rfl

theorem resetSysDomain_regs :
    (resetSysDomain s).regs = sysResetRegs s.cfg s.regs s.linkHeld := by
  rw [resetSysDomain_eq]
  rfl

end

/-! The wires and the sites of a reset tick: the reset itself, and nothing transferred. -/

section
variable (s : State)

theorem linkSitesOf_reset {l : LinkIn} (h : l.rst = true) : linkSitesOf (some l) = [.rstLink] := by
  simp [linkSitesOf, linkSites, h]

theorem linkWiresOf_reset {l : LinkIn} (h : l.rst = true) :
    linkWiresOf s (some l) = { LinkWires.off with rst := true } := by
  simp [linkWiresOf, settleLink, h]

theorem sysSitesOf_reset {y : SysIn} (h : y.rst = true) : sysSitesOf s (some y) = [.rstSys] := by
  simp [sysSitesOf, sysSites, h]

theorem sysWiresOf_reset {y : SysIn} (h : y.rst = true) :
    sysWiresOf s (some y) = { SysWires.off with rst := true } := by
  simp [sysWiresOf, settleSys, h]

@[simp] theorem setAgenda_regs (sites : List Site) : (s.setAgenda sites).regs = s.regs := rfl
@[simp] theorem opening_cfg : (opening s).cfg = s.cfg := rfl
@[simp] theorem opening_regs : (opening s).regs = s.regs := rfl
@[simp] theorem opening_linkHeld : (opening s).linkHeld = s.linkHeld := rfl
@[simp] theorem opening_sysHeld : (opening s).sysHeld = s.sysHeld := rfl

end

section
variable {s : State}

/-- A reset tick of the link domain alone (R318). -/
theorem perform_resetLink (hadm : s.cfg.admitted = true) (h : AtRest s) {l : LinkIn}
    (hl : l.rst = true) :
    ∃ t, perform (.tick (some l) none) s = .next t ∧ AtRest t ∧ t.cfg = s.cfg ∧
      t.linkHeld = true ∧ t.regs = linkResetRegs s.cfg s.regs s.sysHeld := by
  obtain ⟨hlink, hsys⟩ := openTick_of_resets (s := opening s) (link := some l) (sys := none)
    (by simp [runsLow, hl])
  have ha : (openTick (opening s) (some l) none).agenda = .rstLink :: fifoSites := by
    rw [openTick_agenda, linkSitesOf_reset hl]
    rfl
  have hrun := (Runs.refl _).rstLink ha (by rw [openTick_lk, linkWiresOf_reset _ hl])
  refine ⟨_, perform_tick hadm h (hrun.trans (runs_fifoSites_off (rl := true) (rs := false)
    (by simp) (by simp) (by simp [sysWiresOf, SysWires.off]))) rfl,
    ⟨rfl, .inl (by simp)⟩, by simp, by simpa using hlink, ?_⟩
  rw [setAgenda_regs, resetLinkDomain_regs]
  simp [hsys]

/-- A reset tick of the system domain alone (R319). -/
theorem perform_resetSys (hadm : s.cfg.admitted = true) (h : AtRest s) {y : SysIn}
    (hy : y.rst = true) :
    ∃ t, perform (.tick none (some y)) s = .next t ∧ AtRest t ∧ t.cfg = s.cfg ∧
      t.sysHeld = true ∧ t.regs = sysResetRegs s.cfg s.regs s.linkHeld := by
  obtain ⟨hlink, hsys⟩ := openTick_of_resets (s := opening s) (link := none) (sys := some y)
    (by simp [runsLow, hy])
  have ha : (openTick (opening s) none (some y)).agenda = .rstSys :: fifoSites := by
    rw [openTick_agenda, sysSitesOf_reset _ hy]
    rfl
  have hrun := (Runs.refl _).rstSys ha (by rw [openTick_sy, sysWiresOf_reset _ hy])
  refine ⟨_, perform_tick hadm h (hrun.trans (runs_fifoSites_off (rl := false) (rs := true)
    (by simp) (by simp [linkWiresOf, LinkWires.off]) (by simp))) rfl,
    ⟨rfl, .inl (by simp)⟩, by simp, by simpa using hsys, ?_⟩
  rw [setAgenda_regs, resetSysDomain_regs]
  simp [hlink]

/-- A reset tick of both domains at one instant: each finds the other held. -/
theorem perform_resetBoth (hadm : s.cfg.admitted = true) (h : AtRest s) {l : LinkIn} {y : SysIn}
    (hl : l.rst = true) (hy : y.rst = true) :
    ∃ t, perform (.tick (some l) (some y)) s = .next t ∧ t.regs = Regs.reset s.cfg := by
  obtain ⟨hlink, hsys⟩ := openTick_of_resets (s := opening s) (link := some l) (sys := some y)
    (by simp [runsLow, hl, hy])
  have ha : (openTick (opening s) (some l) (some y)).agenda = .rstLink :: .rstSys :: fifoSites := by
    rw [openTick_agenda, linkSitesOf_reset hl, sysSitesOf_reset _ hy]
    rfl
  have hrun := ((Runs.refl _).rstLink ha (by rw [openTick_lk, linkWiresOf_reset _ hl])).rstSys
    (rest := fifoSites) (by simp) (by simp [sysWiresOf_reset, hy])
  refine ⟨_, perform_tick hadm h (hrun.trans (runs_fifoSites_off (rl := true) (rs := true)
    (by simp) (by simp) (by simp))) rfl, ?_⟩
  rw [setAgenda_regs, resetSysDomain_regs, setAgenda_regs, resetLinkDomain_regs]
  simp [hlink, sysResetRegs, linkResetRegs, Regs.reset]

end

theorem performAll_pair {a b : Event} {s t u : State} (ha : perform a s = .next t)
    (hb : perform b t = .next u) : performAll [a, b] s = .next u := by
  simp only [performAll, ha, hb]

/-- Settles O29: a second reset tick finds the other domain held and empties the cross-domain FIFOs,
and each reset leaves the other domain's registers alone. -/
theorem resetOfBothDomains : Obligations.ResetOfBothDomains := by
  intro s l y hadm h hl hy es hes
  change ∃ t, performAll es s = .next t ∧ t.regs = Regs.reset s.cfg
  rcases hes with rfl | rfl | rfl
  · obtain ⟨t, ht, hregs⟩ := perform_resetBoth hadm h hl hy
    exact ⟨t, by simp only [performAll, ht], hregs⟩
  · obtain ⟨t, ht, hrest, hcfg, hheld, hregs⟩ := perform_resetLink hadm h hl
    obtain ⟨u, hu, -, -, -, hregs'⟩ := perform_resetSys (hcfg ▸ hadm) hrest hy
    exact ⟨u, performAll_pair ht hu, by rw [hregs', hregs, hcfg, hheld]; rfl⟩
  · obtain ⟨t, ht, hrest, hcfg, hheld, hregs⟩ := perform_resetSys hadm h hy
    obtain ⟨u, hu, -, -, -, hregs'⟩ := perform_resetLink (hcfg ▸ hadm) hrest hl
    exact ⟨u, performAll_pair ht hu, by rw [hregs', hregs, hcfg, hheld]; rfl⟩

end Sys2Proof.EventLaws
end

section
/-! The statements on the FIFO operations of `tls.q` and on the start state. -/

namespace Sys2Proof.EventLaws

open Sys2Proof.Machine

/-! ### The FIFO operations on `tls.q` -/

section
variable (s : State)

theorem exec_fifoNop_tlsq : exec (.fifoNop .tlsq) s = .next s := rfl

theorem exec_fifoPush_tlsq :
    exec (.fifoPush .tlsq) s = .next (s.setTls (s.tls.push s.sy.tlpTxIn.pay)) := rfl

theorem exec_fifoPop_tlsq : exec (.fifoPop .tlsq) s = .next (s.setTls s.tls.pop) := rfl

/-- The pop comes first, the push is of the lane that stands on `tlp_tx_in` (R130). -/
theorem exec_fifoPushPop_tlsq :
    exec (.fifoPushPop .tlsq) s = .next (s.setTls (s.tls.pop.push s.sy.tlpTxIn.pay)) := rfl

end

/-- Settles O10, by what each of the four operations writes into `tls`. -/
theorem laneFifoOperations : Obligations.LaneFifoOperations := fun s =>
  ⟨exec_fifoNop_tlsq s, exec_fifoPush_tlsq s, exec_fifoPop_tlsq s, exec_fifoPushPop_tlsq s⟩

/-! ### The start state -/

/-- The registers of the start state under any configuration are those of the reset table (R47). -/
theorem regs_resetWith (c : Cfg) : (State.resetWith c).regs = Regs.reset c := rfl

/-- Settles O28: the configuration is the default of R322, the registers are `regs_resetWith`. -/
theorem resetState : Obligations.ResetState := by
  obtain ⟨hlbf, hpkt, hdpk, hxbar, htls, htlr, hrxq, htxq⟩ :=
    Regs.mk.inj (regs_resetWith Cfg.atReset)
  exact ⟨rfl, rfl, rfl, hlbf, hpkt, hdpk, hxbar, htls, htlr, hrxq, htxq⟩

/-- The constraints of R5, one by one. -/
theorem admitted_iff (c : Cfg) : c.admitted = true ↔
    c.tags.Nodup ∧ c.tlpTag ∈ c.tags ∧ 1 ≤ c.depackTimeout ∧ 1 ≤ c.rxqDepth ∧ 1 ≤ c.txqDepth ∧
      1 ≤ c.tlpTxqDepth := by
  simp [Cfg.admitted, and_assoc]

/-- The default configuration is admitted, whatever its OPEN parameters are. -/
theorem admitted_atReset : Cfg.atReset.admitted = true := by
  rw [admitted_iff]
  exact ⟨by decide, by decide, Nat.succ_pos _, Nat.succ_pos _, Nat.succ_pos _, Nat.succ_pos _⟩

/-- The reset state has the invariants under every admitted configuration: there is a port for the
grant and `tls.q` is not full. -/
theorem inv_resetWith {c : Cfg} (h : c.admitted = true) : Inv (State.resetWith c) := by
  obtain ⟨-, htag, -, -, -, hdepth⟩ := (admitted_iff c).1 h
  exact {
    admitted := h
    rxBudget := le_rfl
    txBudget := le_rfl
    hidx := fun _ => rfl
    hcnt := fun hcnt => absurd hcnt Bool.false_ne_true
    timer := le_rfl
    grant := List.length_pos_of_mem htag
    rxq := Afifo.empty_wf c.rxqDepth
    txq := Afifo.empty_wf c.txqDepth
    tls := ⟨hdepth, rfl⟩
    noTlsq := List.not_mem_nil }

/-- The reset state has no site left to execute and no port left to register. -/
theorem atRest_resetWith (c : Cfg) : AtRest (State.resetWith c) := ⟨rfl, .inr rfl⟩

/-- A core at rest is live: no site is left whose word could be refused. -/
theorem AtRest.live {s : State} (h : AtRest s) : Live s := by
  obtain ⟨hagenda, helab⟩ := h
  have none_left : ∀ site, site ∉ s.agenda := fun site => hagenda ▸ List.not_mem_nil
  exact ⟨helab, fun t => none_left _, fun hm => absurd hm (none_left _),
    fun hm => absurd hm (none_left _), fun hm => absurd hm (none_left _)⟩

/-- Settles O47, as the reset state under an admitted configuration. -/
theorem resetHasInvariants : Obligations.ResetHasInvariants :=
  ⟨inv_resetWith admitted_atReset, AtRest.live (atRest_resetWith _), atRest_resetWith _⟩

end Sys2Proof.EventLaws
end

section
/-! The statement on the order and the number of the words that a cross-domain FIFO delivers (R79,
R133): what the three operations of `queueRun` leave in the FIFO, and their runs. -/

namespace Sys2Proof.FifoLaws

open Sys2Proof.Machine

/-! ### What an operation leaves in the FIFO it names, and in its capacity -/

section
variable (s : State) (q : CrossFifo)

@[simp] theorem offerTo_fifoPush_crossFifo (w : Word) :
    ((s.offerTo w q).fifoPush (crossFifoId q)).crossFifo q = (s.crossFifo q).push w := by
  cases q <;> rfl

@[simp] theorem offerTo_fifoPush_crossDepth (w : Word) :
    ((s.offerTo w q).fifoPush (crossFifoId q)).crossDepth q = s.crossDepth q := by
  cases q <;> rfl

@[simp] theorem fifoPop_crossFifo :
    (s.fifoPop (crossFifoId q)).crossFifo q = (s.crossFifo q).pop := by
  cases q <;> rfl

@[simp] theorem fifoPop_crossDepth :
    (s.fifoPop (crossFifoId q)).crossDepth q = s.crossDepth q := by
  cases q <;> rfl

@[simp] theorem fifoSync_crossFifo (v f : Nat) :
    (s.fifoSync q v f).crossFifo q = (s.crossFifo q).sync v f := by
  cases q <;> rfl

@[simp] theorem fifoSync_crossDepth (v f : Nat) :
    (s.fifoSync q v f).crossDepth q = s.crossDepth q := by
  cases q <;> rfl

end

/-! ### One operation of a run: taken where the FIFO allows it, skipped where it does not -/

section
variable {s : State} {q : CrossFifo} (ops : List QueueOp)

theorem queueRun_offer_of_room (w : Word)
    (room : sinkReady (s.crossFifo q) (s.crossDepth q) = true) :
    queueRun q (.offer w :: ops) s =
      let r := queueRun q ops ((s.offerTo w q).fifoPush (crossFifoId q))
      (w :: r.1, r.2.1, r.2.2) :=
  if_pos room

theorem queueRun_offer_of_full (w : Word)
    (full : ¬ sinkReady (s.crossFifo q) (s.crossDepth q) = true) :
    queueRun q (.offer w :: ops) s = queueRun q ops s :=
  if_neg full

/-- The word delivered is the head of the FIFO, whatever the channel shows when nothing is held. -/
theorem queueRun_ask_of_visible {w : Word} {ws : List Word}
    (visible : sourceValid (s.crossFifo q) = true) (hitems : (s.crossFifo q).items = w :: ws) :
    queueRun q (.ask :: ops) s =
      let r := queueRun q ops (s.fifoPop (crossFifoId q))
      (r.1, w :: r.2.1, r.2.2) := by
  have hdata : sourceData (s.crossFifo q) (crossSource q) s.now = w := by simp [sourceData, hitems]
  rw [← hdata]
  exact if_pos visible

theorem queueRun_ask_of_hidden (hidden : ¬ sourceValid (s.crossFifo q) = true) :
    queueRun q (.ask :: ops) s = queueRun q ops s :=
  if_neg hidden

theorem queueRun_sync (v f : Nat) :
    queueRun q (.sync v f :: ops) s = queueRun q ops (s.fifoSync q v f) := rfl

end

/-- Settles O54, by induction on the operations: an accepted word joins the end of what the FIFO
holds, a delivered one was its head, and a synchroniser step moves the ghost counters only. That the
counters are in their ranges is needed for the delivery: it makes a visible word a held one. -/
theorem fifoDeliversInOrder : Obligations.FifoDeliversInOrder := by
  intro q s ops
  induction ops generalizing s with
  | nil => exact fun hwf => ⟨(List.append_nil _).symm, hwf⟩
  | cons op ops ih =>
    intro hwf
    cases op with
    | offer w =>
      by_cases room : sinkReady (s.crossFifo q) (s.crossDepth q) = true
      · have hrun := ih ((s.offerTo w q).fifoPush (crossFifoId q))
          (by simpa using Afifo.push_wf w hwf room)
        simpa [queueRun_offer_of_room ops w room, Afifo.push] using hrun
      · rw [queueRun_offer_of_full ops w room]
        exact ih s hwf
    | ask =>
      by_cases visible : sourceValid (s.crossFifo q) = true
      · obtain ⟨w, ws, hitems⟩ := Afifo.items_of_visible hwf visible
        have hrun := ih (s.fifoPop (crossFifoId q)) (by simpa using Afifo.pop_wf hwf visible)
        simpa [queueRun_ask_of_visible ops visible hitems, Afifo.pop, hitems] using hrun
      · rw [queueRun_ask_of_hidden ops visible]
        exact ih s hwf
    | sync v f =>
      have hrun := ih (s.fifoSync q v f) (by simpa using Afifo.sync_wf v f hwf)
      simpa [queueRun_sync, Afifo.sync] using hrun

end Sys2Proof.FifoLaws
end

section
/-! The statements on the encoding: the operation map inverts the encoder, and refuses no word of a
well-formed operation. -/

namespace Sys2Proof.EncodingLaws

open Sys2Proof.Machine Sys2Proof.Laws

/-- The operation whose pattern the word of a site matches, the unreachable words of R110 not yet
put aside. -/
def matched : Site × Raw → Option Instr
  | (.lp k, .frame w) => decodeFrame k w
  | (_, .frame _) => none
  | (site, .bits b) => decodeBits site b

/-- On a reachable word the decoder is the operation map. -/
theorem decode_of_reachableWord {p : Site × Raw} (h : reachableWord p = true) :
    decode p.1 p.2 = orNoPattern (matched p) := by
  obtain ⟨site, w⟩ := p
  cases w with
  | frame w => cases site <;> rfl
  | bits b =>
    have hreach : unreachable site b = false := by simpa [reachableWord] using h
    cases site <;> simp [decode, matched, hreach]

/-- The two fields of a tag word are read back from their concatenation (R92). -/
theorem decodeFrame_w1_append (reserved : BitVec 24) (dst : Tag) :
    decodeFrame .w1 (reserved ++ dst) = some (.lpW1 reserved dst) := by
  have hreserved : reservedField (reserved ++ dst) = reserved := BitVec.extractLsb'_append_eq_left
  have hdst : tagField (reserved ++ dst) = dst := BitVec.extractLsb'_append_eq_right
  rw [decodeFrame, hreserved, hdst]

/-- Every operation, well formed or not, is the one whose pattern its word matches. A split on a
don't-care bit is needed where an earlier pattern of the control word fixes that bit. -/
theorem matched_encode (i : Instr) : matched (encode i) = some i := by
  cases i with
  | lpW1 reserved dst => exact decodeFrame_w1_append reserved dst
  | lbfTxYield t => cases t <;> rfl
  | tlsSendHighPop v l f u => cases u <;> rfl
  | tlrPairStall l => cases l <;> rfl
  | tlrPairEmit l => cases l <;> rfl
  | _ => rfl

/-- The words of the well-formed operations are the reachable ones, one lemma for each operation in
the order of the table. -/
theorem wellFormed_eq_reachableWord (i : Instr) : wellFormed i = reachableWord (encode i) := by
  open EncodingReachable in
  cases i
  exacts [
    lpW0, lpW1 _ _, lpW2 _, lpPayload _, chIdle _ _, chStall _, chXfer _, fifoNop _, fifoPush _,
    fifoPop _, fifoPushPop _, afifoSync _ _ _, lbfRxStayNotx _ _, lbfRxStayBusy, lbfRxYield _,
    lbfRxTimeout, lbfR2t _ _ _, lbfTxStayNorx _ _, lbfTxStayBusy, lbfTxYield _, lbfTxTimeout,
    lbfT2r _ _ _, pktIdleWait _ _ _ _, pktStart _ _ _ _, pktHdrStall _ _ _ _, pktHdrW0 _ _,
    pktHdrW1 _ _, pktHdrW2 _ _, pktCopyIdle _ _ _ _, pktCopyStall _ _ _, pktCopyXfer _ _,
    pktCopyLast _ _, dpkIdleWait _ _ _ _ _, dpkIdleDrop _ _ _ _, dpkIdleSync _ _ _ _,
    dpkHdrWait _ _ _ _, dpkHdrDst _ _ _, dpkHdrLen _ _ _, dpkHdrAbort _ _ _ _ _,
    dpkCopyWait _ _ _ _, dpkCopyStall _ _ _, dpkCopyXfer _ _, dpkCopyLast _ _,
    dpkCopyAbort _ _ _ _ _, xdIdle _ _ _, xdRouteStall _, xdRouteXfer _, xdDropWord _,
    xdDropLast _, xaPark _ _, xaSwitchIdle _ _, xaWait _ _ _, xaStall _ _, xaXfer _, xaEndPark,
    xaEndSwitch, tlsFillWait _ _ _ _ _ _, tlsFillPush _ _ _ _, tlsFillCloseLast _ _ _ _ _,
    tlsFillCloseFull _ _ _ _, tlsSendStall _ _ _ _ _ _, tlsSendLowMore _ _ _,
    tlsSendLowPop _ _ _, tlsSendHighPop _ _ _ _, tlsSendLast _ _ _ _ _, tlrIdle _ _ _,
    tlrTakeLow _, tlrSingleStall, tlrSingleEmit, tlrPairStall _, tlrPairEmit _, resetLink,
    resetSys, xbarRegisterPort _]

/-- Settles O3: the word of a well-formed operation is reachable, and the operation map takes a word
back to the operation that wrote it. -/
theorem decodeOfEncode : Obligations.DecodeOfEncode := by
  intro i hwf
  have hreach : reachableWord (encode i) = true := wellFormed_eq_reachableWord i ▸ hwf
  rw [decode_of_reachableWord hreach, matched_encode, orNoPattern]

/-- Settles O2: each word is the encoding of a well-formed operation. -/
theorem exampleWordsDecode : Obligations.ExampleWordsDecode :=
  ⟨decodeOfEncode .lpW0 rfl, decodeOfEncode (.chXfer .mTx) rfl,
    decodeOfEncode (.fifoPushPop .txq) rfl, decodeOfEncode .lbfRxTimeout rfl,
    decodeOfEncode (.pktHdrW1 false true) rfl, decodeOfEncode (.dpkHdrDst true false true) rfl,
    decodeOfEncode (.xdDropLast false) rfl, decodeOfEncode .xaEndSwitch rfl,
    decodeOfEncode (.tlsSendLowMore false true false) rfl, decodeOfEncode (.tlrTakeLow true) rfl⟩

end Sys2Proof.EncodingLaws
end

section
/-! The statement on the words of a frame: what each position selects, and what each word writes. -/

namespace Sys2Proof.FrameLaws

open Sys2Proof.Machine

section
variable (s : State)

theorem selects_lp (k : FramePos) :
    selects s (.lp k) = orNoPattern (decodeFrame k s.sy.dpkSink.pay) := rfl

/-- Of the four positions only `W0` refuses a word: any but the preamble (R91). -/
theorem selects_lp_w0_iff :
    selects s (.lp .w0) = .ok .lpW0 ↔ s.sy.dpkSink.pay = preamble := by
  refine ⟨fun h => ?_, selects_lp_w0 s⟩
  by_contra hne
  rw [selects_lp, decodeFrame, if_neg hne] at h
  cases h

theorem exec_lpW0 : exec .lpW0 s = .next (s.setSy { s.sy with pm := true }) := rfl

theorem exec_lpW1 (reserved : BitVec 24) (dst : Tag) :
    exec (.lpW1 reserved dst) s = .next (s.setDpk { s.dpk with dstR := dst }) := rfl

theorem exec_lpW2 (length : Word) :
    exec (.lpW2 length) s = .next (s.setDpk { s.dpk with lenR := length }) := rfl

/-- The payload word replaces the data on `dpk.source`; its `valid`, and the rest of it, stay. -/
theorem exec_lpPayload (data : Word) :
    exec (.lpPayload data) s = .next (s.setSy { s.sy with
      dpkSource := { s.sy.dpkSource with pay := { s.sy.dpkSource.pay with data := data } } }) := rfl

end

/-- Settles O7: the position selects the operation, whose effect is one write. -/
theorem frameWordEffects : Obligations.FrameWordEffects := by
  rintro s w rfl
  exact ⟨selects_lp_w0_iff s, selects_lp s .w1, selects_lp s .w2, selects_lp s .payload,
    exec_lpW0 s, exec_lpW1 s, exec_lpW2 s, exec_lpPayload s⟩

end Sys2Proof.FrameLaws
end

section
/-! The statement on the operations of the cross-domain FIFOs: what a push and a pop select, and
what each operation writes. -/

namespace Sys2Proof.FifoLaws

open Sys2Proof.Machine

section
variable (s : State)

theorem exec_fifoNop (q : FifoId) : exec (.fifoNop q) s = .next s := rfl

theorem exec_fifoPush (q : FifoId) : exec (.fifoPush q) s = .next (s.fifoPush q) := rfl

theorem exec_fifoPop (q : FifoId) : exec (.fifoPop q) s = .next (s.fifoPop q) := rfl

/-- The pop comes first (R130). -/
theorem exec_fifoPushPop (q : FifoId) :
    exec (.fifoPushPop q) s = .next ((s.fifoPop q).fifoPush q) := rfl

end

section
variable {s : State} {push pop : Bool}

theorem selects_rxq_of (hpush : (s.lk.rxqSink.xfer && sinkReady s.rxq s.cfg.rxqDepth) = push)
    (hpop : (s.sy.dpkSink.xfer && sourceValid s.rxq) = pop) :
    selects s (.fq .rxq) = .ok (fifoOp .rxq push pop) := by
  rw [selects_rxq, hpush, hpop]

theorem selects_txq_of (hpush : (s.sy.pktSource.xfer && sinkReady s.txq s.cfg.txqDepth) = push)
    (hpop : (s.lk.txqSource.xfer && sourceValid s.txq) = pop) :
    selects s (.fq .txq) = .ok (fifoOp .txq push pop) := by
  rw [selects_txq, hpush, hpop]

end

/-- Settles O9: the push and the pop of the tick select the operation of each FIFO, and its effect
is that of `push` and `pop` on the contents and the ghost counters. -/
theorem crossFifoOperations : Obligations.CrossFifoOperations :=
  ⟨fun s =>
    ⟨fun hpush hpop => ⟨selects_rxq_of hpush hpop, exec_fifoNop s .rxq⟩,
      fun hpush hpop => ⟨selects_rxq_of hpush hpop, exec_fifoPush s .rxq⟩,
      fun hpush hpop => ⟨selects_rxq_of hpush hpop, exec_fifoPop s .rxq⟩,
      fun hpush hpop => ⟨selects_rxq_of hpush hpop, exec_fifoPushPop s .rxq⟩⟩,
    fun s =>
    ⟨fun hpush hpop => ⟨selects_txq_of hpush hpop, exec_fifoNop s .txq⟩,
      fun hpush hpop => ⟨selects_txq_of hpush hpop, exec_fifoPush s .txq⟩,
      fun hpush hpop => ⟨selects_txq_of hpush hpop, exec_fifoPop s .txq⟩,
      fun hpush hpop => ⟨selects_txq_of hpush hpop, exec_fifoPushPop s .txq⟩⟩⟩

end Sys2Proof.FifoLaws
end

section
/-! The statement on the frame that the Packetizer emits: its operation as the pure next-state
function of Safety.lean, one tick of `packetize` in each state, and the run over a packet. -/

namespace Sys2Proof.PacketizerLaws

open Sys2Proof.Machine

/-! ### One operation of the Packetizer -/

theorem runSite_of_selects {s : State} {site : Site} {i : Instr} (h : selects s site = .ok i) :
    runSite site s = exec i s := by
  simp only [runSite, h]

/-- Whichever operation the Packetizer selects, it writes the next registers of R174 to R183. -/
theorem runSite_pkt {s : State} {st : PktSt} {x : Fin 3} (hpkt : s.pkt = ⟨st, x⟩)
    (hidx : st ≠ .insertHeader → x = 0) :
    runSite .pkt s = .next ((drivePkt s).setPkt (nextPkt ⟨st, x⟩ s.sy)) := by
  have hself : drivePkt s = (drivePkt s).setPkt ⟨st, x⟩ := by rw [← hpkt]; rfl
  rw [runSite_of_selects (selects_pkt s (by simpa only [hpkt] using hidx)), hpkt]
  cases st with
  | idle =>
    cases hv : s.sy.mTx.valid
    · simp [nextPkt, exec, execPktIdleWait, hpkt, hv]
    · simp [nextPkt, exec, execPktStart, hv]
  | insertHeader =>
    cases hr : s.sy.pktSource.ready
    · simpa [nextPkt, exec, execPktHdrStall, hr] using hself
    · have hx : x = 0 ∨ x = 1 ∨ x = 2 := by omega
      rcases hx with rfl | rfl | rfl
      · simp [nextPkt, exec, execPktHdrW0, hpkt, hr]
      · simp [nextPkt, exec, execPktHdrW1, hpkt, hr]
      · simp [nextPkt, exec, execPktHdrW2, hr]
  | copy =>
    cases hv : s.sy.mTx.valid
    · simpa [nextPkt, exec, execPktCopyIdle, hv] using hself
    · cases hr : s.sy.pktSource.ready
      · simpa [nextPkt, exec, execPktCopyStall, hv, hr] using hself
      · cases hl : s.sy.mTx.pay.last
        · simp [nextPkt, exec, execPktCopyXfer, hpkt, hv, hr, hl]
        · simp [nextPkt, exec, execPktCopyLast, hpkt, hv, hr, hl]

/-! ### One tick of `packetize` -/

/-- The state in which the Packetizer's operation executes in a tick of `packetize`: the first of
the words is offered on `pkt.sink`, `pkt.source` is ready. -/
def fedPkt (us : List UpWord) (s : State) : State :=
  drivePkt (s.setSy { s.sy with mTx := feedChan false us, pktSource := feedChan true [] })

section
variable {s : State} {st : PktSt} {i : Fin 3}

@[simp] theorem fedPkt_mTx (u : UpWord) (us : List UpWord) :
    (fedPkt (u :: us) s).sy.mTx = ⟨true, s.pkt.st == .copy, false, u⟩ := by
  cases hst : s.pkt.st <;> simp [fedPkt, pktOffer, pktAccept, offer, accept, feedChan, hst]

/-- `pkt.source` while a word is offered on `pkt.sink` (R173). -/
theorem fedPkt_pktSource (hpkt : s.pkt = ⟨st, i⟩) (u : UpWord) (us : List UpWord) :
    (fedPkt (u :: us) s).sy.pktSource = match st with
      | .idle => ⟨false, true, false, Config.idleLast s.now⟩
      | .insertHeader => ⟨true, true, false, ⟨headerWord i u.dst u.length, false⟩⟩
      | .copy => ⟨true, true, false, ⟨u.data, u.last⟩⟩ := by
  cases st <;> simp [fedPkt, pktOffer, pktAccept, offer, feedChan, hpkt]

/-- A tick of `packetize`: the next registers, and what it emits and takes. -/
theorem packetize_succ (n : Nat) (us : List UpWord) (hpkt : s.pkt = ⟨st, i⟩)
    (hidx : st ≠ .insertHeader → i = 0) :
    let w := (fedPkt us s).sy
    ∃ t, t.pkt = nextPkt ⟨st, i⟩ w ∧
      packetize (n + 1) us s =
        let r := packetize n (if transfers w.mTx then us.tail else us) t
        ((if transfers w.pktSource then [w.pktSource.pay] else []) ++ r.1, r.2) := by
  have hrun := runSite_pkt (s := fedPkt us s) hpkt hidx
  refine ⟨(drivePkt (fedPkt us s)).setPkt (nextPkt ⟨st, i⟩ (fedPkt us s).sy), rfl, ?_⟩
  unfold fedPkt at hrun ⊢
  simp only [packetize, hrun]

end

section
variable {s : State} (n : Nat) (u : UpWord) (us : List UpWord)

/-- `IDLE` sees the first word, takes none and emits none (R175). -/
theorem packetize_idle (hpkt : s.pkt = ⟨.idle, 0⟩) :
    ∃ t, t.pkt = ⟨.insertHeader, 0⟩ ∧
      packetize (n + 1) (u :: us) s = packetize n (u :: us) t := by
  obtain ⟨t, ht, hrun⟩ := packetize_succ n (u :: us) hpkt (fun _ => rfl)
  exact ⟨t, by simpa [nextPkt] using ht,
    by simpa [transfers, fedPkt_pktSource hpkt, hpkt] using hrun⟩

/-- The register after the header word `i` is taken (R177 to R179). -/
def afterHeader (i : Fin 3) : Pkt :=
  if i = 0 then ⟨.insertHeader, 1⟩ else if i = 1 then ⟨.insertHeader, 2⟩ else ⟨.copy, 0⟩

/-- `INSERT_HEADER` emits the header word of its index for the first word, which it does not take
(R173, R177 to R179). -/
theorem packetize_insertHeader {i : Fin 3} (hpkt : s.pkt = ⟨.insertHeader, i⟩) :
    ∃ t, t.pkt = afterHeader i ∧
      packetize (n + 1) (u :: us) s =
        (⟨headerWord i u.dst u.length, false⟩ :: (packetize n (u :: us) t).1,
          (packetize n (u :: us) t).2) := by
  obtain ⟨t, ht, hrun⟩ := packetize_succ n (u :: us) hpkt (fun h => absurd rfl h)
  exact ⟨t, by simpa [nextPkt, afterHeader, fedPkt_pktSource hpkt] using ht,
    by simpa [transfers, fedPkt_pktSource hpkt, hpkt] using hrun⟩

/-- `COPY` emits the first word and takes it; the last one ends the packet (R173, R182, R183). -/
theorem packetize_copy (hpkt : s.pkt = ⟨.copy, 0⟩) :
    ∃ t, t.pkt = ⟨if u.last then .idle else .copy, 0⟩ ∧
      packetize (n + 1) (u :: us) s =
        (⟨u.data, u.last⟩ :: (packetize n us t).1, (packetize n us t).2) := by
  obtain ⟨t, ht, hrun⟩ := packetize_succ n (u :: us) hpkt (fun _ => rfl)
  refine ⟨t, ?_, by simpa [transfers, fedPkt_pktSource hpkt, hpkt] using hrun⟩
  rw [ht]
  cases hlast : u.last <;> simp [nextPkt, fedPkt_pktSource hpkt, hlast]

end

/-! ### The run over a packet -/

/-- A word of a `UP` channel as the Packetizer copies it to `pkt.source` (R173). -/
def copied (u : UpWord) : LastWord := ⟨u.data, u.last⟩

section
variable {s : State} (dst : Tag) (length : Word)

/-- `COPY` emits the words of a packet in as many ticks and ends in `IDLE`. -/
theorem packetize_payload {ws : List Word} (hne : ws ≠ []) (hpkt : s.pkt = ⟨.copy, 0⟩) :
    ∃ t, t.pkt = ⟨.idle, 0⟩ ∧
      packetize ws.length (upWords dst length ws) s = ((upWords dst length ws).map copied, t) := by
  induction ws generalizing s with
  | nil => exact absurd rfl hne
  | cons w ws ih =>
    cases ws with
    | nil =>
      obtain ⟨t, ht, hrun⟩ := packetize_copy 0 ⟨w, true, dst, length⟩ [] hpkt
      exact ⟨t, ht, hrun⟩
    | cons w' ws =>
      obtain ⟨t, ht, hrun⟩ := packetize_copy (ws.length + 1) ⟨w, false, dst, length⟩
        (upWords dst length (w' :: ws)) hpkt
      obtain ⟨t', ht', hrun'⟩ := ih (List.cons_ne_nil _ _) ht
      rw [List.length_cons] at hrun'
      rw [hrun'] at hrun
      exact ⟨t', ht', hrun⟩

/-- Every word of a packet carries its tag and its length; so does the first one. -/
theorem upWords_eq_cons {ws : List Word} (hne : ws ≠ []) :
    ∃ u us, upWords dst length ws = u :: us ∧ u.dst = dst ∧ u.length = length := by
  match ws, hne with
  | [w], _ => exact ⟨_, _, rfl, rfl, rfl⟩
  | w :: w' :: ws, _ => exact ⟨_, _, rfl, rfl, rfl⟩

/-- From `IDLE` a packet is one tick without a word, its three header words, its payload. -/
theorem packetize_packet {ws : List Word} (hne : ws ≠ []) (hpkt : s.pkt = ⟨.idle, 0⟩) :
    ∃ t, t.pkt = ⟨.idle, 0⟩ ∧
      packetize (4 + ws.length) (upWords dst length ws) s =
        ([preamble, dst.zeroExtend 32, length].map (⟨·, false⟩) ++
          (upWords dst length ws).map copied, t) := by
  obtain ⟨u, us, hus, hdst, hlength⟩ := upWords_eq_cons dst length hne
  obtain ⟨t0, ht0, hrun0⟩ := packetize_idle (ws.length + 3) u us hpkt
  obtain ⟨t1, ht1, hrun1⟩ := packetize_insertHeader (ws.length + 2) u us ht0
  obtain ⟨t2, ht2, hrun2⟩ := packetize_insertHeader (ws.length + 1) u us ht1
  obtain ⟨t3, ht3, hrun3⟩ := packetize_insertHeader ws.length u us ht2
  obtain ⟨t, ht, hrun⟩ := packetize_payload dst length hne ht3
  refine ⟨t, ht, ?_⟩
  rw [Nat.add_comm, hus, hrun0, hrun1, hrun2, hrun3, ← hus, hrun]
  simp [headerWord, hdst, hlength]

theorem map_data_copied_upWords (ws : List Word) :
    ((upWords dst length ws).map copied).map LastWord.data = ws := by
  induction ws with
  | nil => rfl
  | cons w ws ih =>
    cases ws with
    | nil => rfl
    | cons w' ws => exact congrArg (w :: ·) ih

/-- `last` is 1 on the final word of a packet alone (R98). -/
theorem map_last_copied_upWords (w : Word) (ws : List Word) :
    ((upWords dst length (w :: ws)).map copied).map LastWord.last =
      List.replicate ws.length false ++ [true] := by
  induction ws generalizing w with
  | nil => rfl
  | cons w' ws ih => exact congrArg (false :: ·) (ih w')

end

/-- Settles O55: the words emitted are those of `packetize_packet`, the header words without `last`
and the payload words as they are. -/
theorem packetizerEmitsFrame : Obligations.PacketizerEmitsFrame := by
  intro s p hpkt hne
  obtain ⟨t, ht, hrun⟩ := packetize_packet p.dst p.length hne hpkt
  rw [LinkPacket.words, hrun]
  refine ⟨?_, ?_, ht⟩
  · rw [List.map_append, map_data_copied_upWords]
    rfl
  · obtain ⟨w, ws, hws⟩ := List.exists_cons_of_ne_nil hne
    have hlength : 2 + (w :: ws).length = ws.length + 3 := by simp; omega
    rw [List.map_append, hws, map_last_copied_upWords, hlength]
    rfl

end Sys2Proof.PacketizerLaws
end

section
/-! The statement on the settled wires: each of the two passes leaves the outputs of its components
standing, so that driving any of them again changes nothing. -/

namespace Sys2Proof.WireLaws

open Sys2Proof.Machine

/-! ### Driving a family of channels again -/

section
variable {α β : Type}

theorem zipWith_zipWith_self {f : α → β → β} (hf : ∀ a b, f a (f a b) = f a b)
    (as : List α) (bs : List β) :
    List.zipWith f as (List.zipWith f as bs) = List.zipWith f as bs := by
  induction as generalizing bs with
  | nil => rfl
  | cons a as ih =>
    cases bs with
    | nil => rfl
    | cons b bs => simp [hf, ih]

/-- Where `f` has been applied to every element and `g` then to one, `f` has nothing left to do if
`g` keeps what `f` writes. -/
theorem zipWith_modify_zipWith {f : α → β → β} {g : β → β} (hf : ∀ a b, f a (f a b) = f a b)
    (hg : ∀ a b, f a (g (f a b)) = g (f a b)) (as : List α) (bs : List β) (k : Nat) :
    List.zipWith f as ((List.zipWith f as bs).modify k g) = (List.zipWith f as bs).modify k g := by
  induction as generalizing bs k with
  | nil => cases k <;> rfl
  | cons a as ih =>
    cases bs with
    | nil => cases k <;> rfl
    | cons b bs =>
      cases k with
      | zero => simp [hg, zipWith_zipWith_self hf]
      | succ k => simp [hf, ih]

/-- Where `f` has been applied to one element and `g` then to every one, `f` has nothing left to do
if `g` keeps what `f` writes. -/
theorem modify_mapIdx_modify {f : β → β} {g : Nat → β → β}
    (h : ∀ i b, f (g i (f b)) = g i (f b)) (l : List β) (k : Nat) :
    ((l.modify k f).mapIdx g).modify k f = (l.modify k f).mapIdx g := by
  refine List.ext_getElem? fun i => ?_
  rw [List.getElem?_modify, List.getElem?_mapIdx, List.getElem?_modify]
  cases l[i]? with
  | none => rfl
  | some b =>
    by_cases hik : k = i
    · simp [hik, h]
    · simp [hik]

theorem mapIdx_mapIdx_self {g : Nat → β → β} (h : ∀ i b, g i (g i b) = g i b) (l : List β) :
    (l.mapIdx g).mapIdx g = l.mapIdx g := by
  rw [List.mapIdx_mapIdx]
  exact congrArg (List.mapIdx · l) (funext fun i => funext fun b => h i b)

theorem modify_modify_self {f : β → β} (h : ∀ b, f (f b) = f b) (l : List β) (k : Nat) :
    (l.modify k f).modify k f = l.modify k f := by
  rw [List.modify_modify_eq]
  exact congrArg (l.modify k) (funext h)

end

section
variable (l : List (Chan UpWord)) (k : Nat) (ready : Chan UpWord → Bool)

/-- Driving the `ready` of one channel of a family keeps what is offered on it. -/
theorem portChan_modify_accept_valid :
    (portChan (l.modify k fun c => accept (ready c) c) k).valid = (portChan l k).valid := by
  rcases Nat.lt_or_ge k l.length with h | h
  · rw [portChan_modify_self _ h]
    rfl
  · rw [portChan_of_length_le h, portChan_of_length_le (by simpa using h)]

theorem portChan_modify_accept_pay :
    (portChan (l.modify k fun c => accept (ready c) c) k).pay = (portChan l k).pay := by
  rcases Nat.lt_or_ge k l.length with h | h
  · rw [portChan_modify_self _ h]
    rfl
  · rw [portChan_of_length_le h, portChan_of_length_le (by simpa using h)]

end

/-! ### The inbound pass

A later component of the pass drives only the `ready` of a channel on which an earlier one offers,
and the `ready` functions run upstream, after every signal that they read. -/

section
variable (s : State) (w : SysWires)

theorem dpkOffer_settleInbound : dpkOffer s (settleInbound s w) = settleInbound s w := by
  have hsource : (dpkOffer s (settleInbound s w)).dpkSource = (settleInbound s w).dpkSource := by
    cases h : dpkForwards s <;>
      simp [settleInbound, dpkAccept, xdAccept, tlrAccept, tlrOffer, xdOffer, dpkOffer, dpkWord,
        offer, accept, h]
  exact congrArg (fun c => { settleInbound s w with dpkSource := c }) hsource

theorem dpkAccept_settleInbound : dpkAccept s (settleInbound s w) = settleInbound s w := rfl

theorem xdOffer_settleInbound : xdOffer s (settleInbound s w) = settleInbound s w :=
  congrArg (fun l => { settleInbound s w with inPorts := l })
    (zipWith_modify_zipWith (fun _ _ => by rfl) (fun _ _ => by rfl) _ _ _)

theorem xdAccept_settleInbound : xdAccept s (settleInbound s w) = settleInbound s w := rfl

theorem tlrOffer_settleInbound : tlrOffer s (settleInbound s w) = settleInbound s w := by
  have hvalid : (portChan (settleInbound s w).inPorts s.cfg.tlpPort).valid =
      (portChan (xdOffer s (dpkOffer s w)).inPorts s.cfg.tlpPort).valid :=
    portChan_modify_accept_valid _ _ _
  have hpay : (portChan (settleInbound s w).inPorts s.cfg.tlpPort).pay =
      (portChan (xdOffer s (dpkOffer s w)).inPorts s.cfg.tlpPort).pay :=
    portChan_modify_accept_pay _ _ _
  have hout : (tlrOffer s (settleInbound s w)).tlpRxOut = (settleInbound s w).tlpRxOut := by
    simp only [tlrOffer, hvalid, hpay]
    rfl
  exact congrArg (fun c => { settleInbound s w with tlpRxOut := c }) hout

theorem tlrAccept_settleInbound : tlrAccept s (settleInbound s w) = settleInbound s w :=
  congrArg (fun l => { settleInbound s w with inPorts := l })
    (modify_modify_self (fun _ => by rfl) _ _)

end

/-! ### The outbound pass -/

section
variable (s : State) (w : SysWires)

theorem tlsOffer_settleOutbound : tlsOffer s (settleOutbound s w) = settleOutbound s w :=
  congrArg (fun l => { settleOutbound s w with outPorts := l })
    (modify_mapIdx_modify (fun _ _ => by cases s.tls.st <;> rfl) _ _)

theorem tlsAccept_settleOutbound : tlsAccept s (settleOutbound s w) = settleOutbound s w := rfl

theorem xaOffer_settleOutbound : xaOffer s (settleOutbound s w) = settleOutbound s w := by
  have hmTx : (xaOffer s (settleOutbound s w)).mTx = (settleOutbound s w).mTx := by
    cases h : (tlsOffer s w).outPorts[s.xbar.grant]? <;>
      simp [settleOutbound, tlsAccept, xaAccept, pktAccept, pktOffer, xaOffer, offer, accept, h]
  exact congrArg (fun c => { settleOutbound s w with mTx := c }) hmTx

theorem xaAccept_settleOutbound : xaAccept s (settleOutbound s w) = settleOutbound s w :=
  congrArg (fun l => { settleOutbound s w with outPorts := l })
    (mapIdx_mapIdx_self (fun _ _ => by rfl) _)

theorem pktOffer_settleOutbound : pktOffer s (settleOutbound s w) = settleOutbound s w := by
  have hsource : (pktOffer s (settleOutbound s w)).pktSource = (settleOutbound s w).pktSource := by
    cases h : s.pkt.st <;>
      simp [settleOutbound, tlsAccept, xaAccept, pktAccept, pktOffer, offer, accept, h]
  exact congrArg (fun c => { settleOutbound s w with pktSource := c }) hsource

theorem pktAccept_settleOutbound : pktAccept s (settleOutbound s w) = settleOutbound s w := rfl

end

/-! ### Both passes -/

/-- The inbound wires of `w` with the outbound wires of `v`. -/
def withOutbound (w v : SysWires) : SysWires :=
  { w with tlpTxIn := v.tlpTxIn, outPorts := v.outPorts, mTx := v.mTx, pktSource := v.pktSource }

section
variable (s : State) (w v : SysWires)

/-- The outbound pass leaves the inbound wires alone. -/
theorem settleOutbound_eq : settleOutbound s w = withOutbound w (settleOutbound s w) := by
  simp only [withOutbound, settleOutbound, tlsAccept, xaAccept, pktAccept, pktOffer, xaOffer,
    tlsOffer]

theorem driveDpk_withOutbound : dpkAccept s (dpkOffer s (withOutbound w v)) =
    withOutbound (dpkAccept s (dpkOffer s w)) v := rfl

theorem driveXd_withOutbound : xdAccept s (xdOffer s (withOutbound w v)) =
    withOutbound (xdAccept s (xdOffer s w)) v := rfl

theorem driveTlr_withOutbound : tlrAccept s (tlrOffer s (withOutbound w v)) =
    withOutbound (tlrAccept s (tlrOffer s w)) v := rfl

/-- Whatever stands on the wires before, every output rule holds of them after the two passes. -/
theorem sysSettled_settle : SysSettled s (settleOutbound s (settleInbound s w)) := by
  refine ⟨?dpk, ?xd, ?tlr, ?tls, ?xa, ?pkt⟩
  case dpk =>
    rw [settleOutbound_eq, driveDpk_withOutbound, dpkOffer_settleInbound, dpkAccept_settleInbound]
  case xd =>
    rw [settleOutbound_eq, driveXd_withOutbound, xdOffer_settleInbound, xdAccept_settleInbound]
  case tlr =>
    rw [settleOutbound_eq, driveTlr_withOutbound, tlrOffer_settleInbound, tlrAccept_settleInbound]
  case tls => rw [tlsOffer_settleOutbound, tlsAccept_settleOutbound]
  case xa => rw [xaOffer_settleOutbound, xaAccept_settleOutbound]
  case pkt => rw [pktOffer_settleOutbound, pktAccept_settleOutbound]

end

/-- The Link-Bus FSM reads no signal that it drives (R146). -/
theorem lbfWires_lbfWires (s : State) (w : LinkWires) :
    lbfWires s (lbfWires s w) = lbfWires s w := rfl

/-- Settles O34: the settled wires are those after the passes of `sysSettled_settle`, and those that
the Link-Bus FSM has driven. -/
theorem settledWiresAreAFixedPoint : Obligations.SettledWiresAreAFixedPoint := by
  refine ⟨fun s i h => ?_, fun s i h => ?_⟩
  · rw [settleSys, h]
    exact sysSettled_settle s (sysInputs s i)
  · rw [settleLink, h]
    exact lbfWires_lbfWires s (linkInputs s i)

end Sys2Proof.WireLaws
end

section
/-! The statement on the channel operations: the flag that each writes, and what it leaves alone. -/

namespace Sys2Proof.ChannelLaws

open Sys2Proof.Machine

section
variable (s : State) (c : ChanId) (x : Bool)

/-- A channel operation writes wires alone. -/
theorem setXfer_eq :
    s.setXfer c x = { s with lk := (s.setXfer c x).lk, sy := (s.setXfer c x).sy } := by
  cases c <;> rfl

theorem setXfer_lk_withoutXfer : (s.setXfer c x).lk.withoutXfer = s.lk.withoutXfer := by
  cases c <;> rfl

/-- The flag of one channel of a family is put aside with all the others. -/
theorem map_flagXfer_modify (l : List (Chan UpWord)) (i : Nat) :
    (l.modify i (flagXfer x)).map (flagXfer false) = l.map (flagXfer false) := by
  refine List.ext_getElem? fun j => ?_
  rw [List.getElem?_map, List.getElem?_map, List.getElem?_modify]
  cases l[j]? with
  | none => rfl
  | some d => by_cases hij : i = j <;> simp [hij, flagXfer]

theorem setXfer_sy_withoutXfer : (s.setXfer c x).sy.withoutXfer = s.sy.withoutXfer := by
  cases c with
  | inPort i =>
    exact congrArg (fun l => { s.sy.withoutXfer with inPorts := l }) (map_flagXfer_modify x _ i)
  | outPort i =>
    exact congrArg (fun l => { s.sy.withoutXfer with outPorts := l }) (map_flagXfer_modify x _ i)
  | _ => rfl

theorem xferOf_setXfer_ne {d : ChanId} (h : d ≠ c) : (s.setXfer c x).xferOf d = s.xferOf d := by
  cases c with
  | inPort i =>
    cases d with
    | inPort j => exact congrArg Chan.xfer (portChan_modify_ne _ fun hij => h (hij ▸ rfl))
    | _ => rfl
  | outPort i =>
    cases d with
    | outPort j => exact congrArg Chan.xfer (portChan_modify_ne _ fun hij => h (hij ▸ rfl))
    | _ => rfl
  | _ => cases d <;> simp_all [State.setXfer, State.xferOf]

/-- A channel operation changes no more than the flag of its channel. -/
theorem onlyXferOf_setXfer : OnlyXferOf c s (s.setXfer c x) :=
  ⟨setXfer_eq s c x, setXfer_lk_withoutXfer s c x, setXfer_sy_withoutXfer s c x,
    fun _ h => xferOf_setXfer_ne s c x h⟩

/-- A channel that does not exist has no flag to raise, and offers nothing. -/
theorem xfer_portChan_modify {l : List (Chan UpWord)} {i : Nat}
    (h : x = true → (portChan l i).valid = true) :
    (portChan (l.modify i (flagXfer x)) i).xfer = x := by
  rcases Nat.lt_or_ge i l.length with hi | hi
  · rw [portChan_modify_self _ hi]
    rfl
  · rw [portChan_of_length_le hi] at h
    rw [portChan_of_length_le (by simpa using hi)]
    exact (Bool.eq_false_iff.2 fun hx => Bool.false_ne_true (h hx)).symm

/-- A flag is raised only where a word is offered, as CH.XFER is selected only there. -/
theorem xferOf_setXfer_self (h : x = true → (s.handshakeOf c).1 = true) :
    (s.setXfer c x).xferOf c = x := by
  cases c with
  | inPort i => exact xfer_portChan_modify x h
  | outPort i => exact xfer_portChan_modify x h
  | _ => rfl

end

section
variable {s : State} {c : ChanId}

theorem exec_chIdle (r : Bool) : exec (.chIdle c r) s = .next (s.setXfer c false) := rfl

theorem exec_chStall : exec (.chStall c) s = .next (s.setXfer c false) := rfl

theorem exec_chXfer : exec (.chXfer c) s = .next (s.setXfer c true) := rfl

theorem selects_ch_of {v r : Bool} (h : s.handshakeOf c = (v, r)) :
    selects s (.ch c) = .ok (if v then (if r then .chXfer c else .chStall c) else .chIdle c r) := by
  rw [selects_ch, h]

theorem xferOf_setXfer_false : (s.setXfer c false).xferOf c = false :=
  xferOf_setXfer_self s c false (absurd · Bool.false_ne_true)

theorem xferOf_setXfer_true (h : (s.handshakeOf c).1 = true) : (s.setXfer c true).xferOf c = true :=
  xferOf_setXfer_self s c true fun _ => h

end

/-- Settles O8: the handshake selects the operation, which writes the flag by `setXfer`. -/
theorem channelOperations : Obligations.ChannelOperations := by
  refine fun s c => ⟨fun r h => ?idle, fun h => ?stall, fun h => ?xfer⟩
  case idle =>
    exact ⟨selects_ch_of h, _, exec_chIdle r, xferOf_setXfer_false, onlyXferOf_setXfer s c false⟩
  case stall =>
    exact ⟨selects_ch_of h, _, exec_chStall, xferOf_setXfer_false, onlyXferOf_setXfer s c false⟩
  case xfer =>
    have hvalid : (s.handshakeOf c).1 = true := congrArg Prod.fst h
    exact ⟨selects_ch_of h, _, exec_chXfer, xferOf_setXfer_true hvalid,
      onlyXferOf_setXfer s c true⟩

end Sys2Proof.ChannelLaws
end

section
/-! The statement on the synchroniser of a cross-domain FIFO. -/

namespace Sys2Proof.FifoLaws

open Sys2Proof.Machine

/-- Values in the ranges of R131 are taken as they are. -/
theorem sync_of_mem_range {q : Afifo} {v f : Nat} (hvis : q.vis ≤ v) (hv : v ≤ q.items.length)
    (hf : f ≤ q.freed) : q.sync v f = ⟨q.items, v, f⟩ := by
  rw [Afifo.sync, min_eq_left hv, max_eq_right hvis, min_eq_left hf]

theorem exec_afifoSync (q : CrossFifo) (v f : Nat) (s : State) :
    exec (.afifoSync q v f) s = .next (s.fifoSync q v f) := rfl

/-- Settles O11: the operation writes `Afifo.sync`, which takes values in their ranges. -/
theorem synchroniserStep : Obligations.SynchroniserStep := by
  refine fun s v f => ⟨fun hvis hv hf => ⟨selects_sync s .rxq v f, ?_⟩,
    fun hvis hv hf => ⟨selects_sync s .txq v f, ?_⟩⟩
  · rw [exec_afifoSync, State.fifoSync, sync_of_mem_range hvis hv hf]
    rfl
  · rw [exec_afifoSync, State.fifoSync, sync_of_mem_range hvis hv hf]
    rfl

end Sys2Proof.FifoLaws
end

section
/-! The statements on the two resets: the operation of each, and what a reset tick leaves in the
FIFOs. -/

namespace Sys2Proof.EventLaws

open Sys2Proof.Machine

section
variable (s : State)

theorem exec_resetLink : exec .resetLink s = .next (resetLinkDomain s) := rfl

theorem exec_resetSys : exec .resetSys s = .next (resetSysDomain s) := rfl

end

/-- Settles O23: the reset input selects the operation, whose effect is `resetLinkDomain_eq`. -/
theorem resetLinkOperation : Obligations.ResetLinkOperation := fun s =>
  ⟨selects_rstLink s, (exec_resetLink s).trans (congrArg _ (resetLinkDomain_eq s))⟩

/-- Settles O24: the reset input selects the operation, whose effect is `resetSysDomain_eq`. -/
theorem resetSysOperation : Obligations.ResetSysOperation := fun s =>
  ⟨selects_rstSys s, (exec_resetSys s).trans (congrArg _ (resetSysDomain_eq s))⟩

/-- Settles O30: the registers after each of the three reset ticks are known in full, and a reset
that finds the other domain not held leaves both cross-domain FIFOs alone. -/
theorem resetsAndFifos : Obligations.ResetsAndFifos := by
  intro s l y hadm h hl hy
  refine ⟨fun hheld => ?sys, fun hheld => ?link, ?both⟩
  case sys =>
    obtain ⟨t, ht, -, -, -, hregs⟩ := perform_resetSys hadm h hy
    rw [hheld] at hregs
    obtain ⟨hlbf, -, -, -, htls, -, hrxq, htxq⟩ := Regs.mk.inj hregs
    exact ⟨t, ht, congrArg Tls.q htls, hrxq, htxq, hlbf⟩
  case link =>
    obtain ⟨t, ht, -, -, -, hregs⟩ := perform_resetLink hadm h hl
    rw [hheld] at hregs
    obtain ⟨-, -, -, -, htls, -, hrxq, htxq⟩ := Regs.mk.inj hregs
    exact ⟨t, ht, hrxq, htxq, htls⟩
  case both =>
    obtain ⟨t, ht, hregs⟩ := perform_resetBoth hadm h hl hy
    obtain ⟨-, -, -, -, htls, -, hrxq, htxq⟩ := Regs.mk.inj hregs
    exact ⟨t, ht, congrArg Tls.q htls, hrxq, htxq⟩

end Sys2Proof.EventLaws
end

section
/-! The statements on the operations and on the outputs of the Link-Bus FSM. -/

namespace Sys2Proof.LinkBusLaws

open Sys2Proof.Machine

/-! ### One operation of the Link-Bus FSM -/

section
variable (s : State)

/-- The state after a tick of the Link-Bus FSM to `st`, both dwell counters written out (R144). -/
def afterLbf (st : LbfSt) : State := { s with
  lk := lbfWires s s.lk
  lbf := {
    st := st
    rxTime := if s.cfg.tRx = 0 then s.lbf.rxTime
      else if s.lbf.st = .receive then s.lbf.rxTime - 1 else s.cfg.tRx - 1
    txTime := if s.cfg.tTx = 0 then s.lbf.txTime
      else if s.lbf.st = .transmit then s.lbf.txTime - 1 else s.cfg.tTx - 1 } }

theorem dwell_beq (limit time : Nat) (st window : LbfSt) :
    dwell limit time (st == window) =
      if limit = 0 then time else if st = window then time - 1 else limit - 1 := by
  simp [dwell]

theorem lbfTick_eq (st : LbfSt) : lbfTick st s = afterLbf s st := by
  rw [lbfTick, inRxWindow, inTxWindow, dwell_beq, dwell_beq]
  rfl

/-- An operation that ticks the FSM to `st` answers the state written out. -/
theorem next_lbfTick (st : LbfSt) :
    (Host.Outcome.next (lbfTick st s) : Out) = .next (afterLbf s st) :=
  congrArg _ (lbfTick_eq s st)

end

/-! ### The rows of the operation map, by state and wants -/

section
variable {s : State}

theorem selects_receive_notTx (hst : s.lbf.st = .receive) (hwt : wantsTransmit s = false) :
    selects s .lbf = .ok (.lbfRxStayNotx (wantsReceive s) (rxMax s)) := by
  simp [selects_lbf, hst, hwt]

theorem selects_receive_busy (hst : s.lbf.st = .receive) (hwt : wantsTransmit s = true)
    (hwr : wantsReceive s = true) :
    selects s .lbf = .ok (if rxMax s then .lbfRxTimeout else .lbfRxStayBusy) := by
  simp [selects_lbf, hst, hwt, hwr]

theorem selects_receive_notRx (hst : s.lbf.st = .receive) (hwt : wantsTransmit s = true)
    (hwr : wantsReceive s = false) : selects s .lbf = .ok (.lbfRxYield (rxMax s)) := by
  simp [selects_lbf, hst, hwt, hwr]

theorem selects_receiveToTransmit (hst : s.lbf.st = .receiveToTransmit) :
    selects s .lbf = .ok (.lbfR2t (wantsTransmit s) (wantsReceive s) (rxMax s)) := by
  simp [selects_lbf, hst]

theorem selects_transmit_notRx (hst : s.lbf.st = .transmit) (hwr : wantsReceive s = false) :
    selects s .lbf = .ok (.lbfTxStayNorx (wantsTransmit s) (txMax s)) := by
  simp [selects_lbf, hst, hwr]

theorem selects_transmit_busy (hst : s.lbf.st = .transmit) (hwr : wantsReceive s = true)
    (hwt : wantsTransmit s = true) :
    selects s .lbf = .ok (if txMax s then .lbfTxTimeout else .lbfTxStayBusy) := by
  simp [selects_lbf, hst, hwt, hwr]

theorem selects_transmit_notTx (hst : s.lbf.st = .transmit) (hwr : wantsReceive s = true)
    (hwt : wantsTransmit s = false) : selects s .lbf = .ok (.lbfTxYield (txMax s)) := by
  simp [selects_lbf, hst, hwt, hwr]

theorem selects_transmitToReceive (hst : s.lbf.st = .transmitToReceive) :
    selects s .lbf = .ok (.lbfT2r (wantsTransmit s) (wantsReceive s) (txMax s)) := by
  simp [selects_lbf, hst]

end

/-! ### What moves on the driven wires -/

section
variable (s : State) (w : LinkWires)

/-- A word moves on `link_rx` in the receive window under the want to receive (R143, R146). -/
theorem transfers_linkRx_lbfWires : transfers (lbfWires s w).linkRx =
    (inRxWindow s && (w.linkRx.valid && w.rxqSink.ready)) :=
  Bool.and_left_comm _ _ _

/-- The same word moves on `rxq.sink` at once. -/
theorem transfers_rxqSink_lbfWires : transfers (lbfWires s w).rxqSink =
    (inRxWindow s && (w.linkRx.valid && w.rxqSink.ready)) :=
  Bool.and_assoc _ _ _

/-- A word moves on `link_tx` in the transmit window under the want to transmit (R143, R146). -/
theorem transfers_linkTx_lbfWires : transfers (lbfWires s w).linkTx =
    (inTxWindow s && (w.txqSource.valid && w.linkTx.ready)) :=
  Bool.and_assoc _ _ _

/-- The same word moves on `txq.source` at once. -/
theorem transfers_txqSource_lbfWires : transfers (lbfWires s w).txqSource =
    (inTxWindow s && (w.txqSource.valid && w.linkTx.ready)) :=
  Bool.and_left_comm _ _ _

end

/-- Settles O13: the state and the wants select the row by `selects_lbf`, every row is one
`lbfTick`, and the outputs are those of `lbfWires`. -/
theorem linkBusOperations : Obligations.LinkBusOperations := by
  intro s
  refine ⟨⟨rfl, rfl, rfl, rfl, transfers_linkRx_lbfWires s s.lk,
      transfers_rxqSink_lbfWires s s.lk, rfl, transfers_linkTx_lbfWires s s.lk,
      transfers_txqSource_lbfWires s s.lk, rfl, rfl, rfl⟩,
    fun hst hwt => ⟨selects_receive_notTx hst hwt, fun _ _ => next_lbfTick s _⟩,
    fun hst hwt hwr hrm => ⟨?rxBusy, next_lbfTick s _⟩,
    fun hst hwt hwr => ⟨selects_receive_notRx hst hwt hwr, fun _ => next_lbfTick s _⟩,
    fun hst hwt hwr hrm => ⟨?rxTimeout, next_lbfTick s _⟩,
    fun hst => ⟨⟨_, selects_receiveToTransmit hst⟩, fun _ _ _ => next_lbfTick s _⟩,
    fun hst hwr => ⟨selects_transmit_notRx hst hwr, fun _ _ => next_lbfTick s _⟩,
    fun hst hwr hwt htm => ⟨?txBusy, next_lbfTick s _⟩,
    fun hst hwr hwt => ⟨selects_transmit_notTx hst hwr hwt, fun _ => next_lbfTick s _⟩,
    fun hst hwr hwt htm => ⟨?txTimeout, next_lbfTick s _⟩,
    fun hst => ⟨⟨_, selects_transmitToReceive hst⟩, fun _ _ _ => next_lbfTick s _⟩⟩
  case rxBusy | rxTimeout =>
    rw [selects_receive_busy hst hwt hwr, show rxMax s = _ from hrm]
    rfl
  case txBusy | txTimeout =>
    rw [selects_transmit_busy hst hwr hwt, show txMax s = _ from htm]
    rfl

/-! ### The settled wires of a link tick -/

section
variable (s : State) (i : LinkIn)

theorem settleLink_of_not_rst (h : i.rst = false) :
    settleLink s i = lbfWires s (linkInputs s i) := by
  simp [settleLink, h]

end

/-- Settles O32: the settled wires are what the FSM drives on the inputs of the tick, and the
transfers are those of `lbfWires`. -/
theorem linkOutputs : Obligations.LinkOutputs := by
  intro s i h
  rw [settleLink_of_not_rst s i h]
  have hlinkRx := transfers_linkRx_lbfWires s (linkInputs s i)
  have htxqSource := transfers_txqSource_lbfWires s (linkInputs s i)
  have hhead : ∀ x xs, s.txq.items = x :: xs →
      (lbfWires s (linkInputs s i)).txqSource.pay = x := fun x xs hq => by
    change s.txq.items.headD _ = x
    rw [hq]
    rfl
  exact ⟨rfl, rfl, rfl, rfl, rfl, rfl, rfl, hhead, rfl, hlinkRx,
    (transfers_rxqSink_lbfWires s _).trans hlinkRx.symm, htxqSource,
    (transfers_linkTx_lbfWires s _).trans htxqSource.symm⟩

end Sys2Proof.LinkBusLaws
end

section
/-! SUPPORT. What stands on settled system wires where a component, or the environment, has nothing
to offer. -/

namespace Sys2Proof.WireLaws

open Sys2Proof.Machine

/-! ### Components with nothing to offer, on settled system wires -/

section
variable {s : State} {w : SysWires}

/-- An idle Depacketizer offers nothing (R195). -/
theorem dpkSource_valid_of_idle (h : SysSettled s w) (hst : s.dpk.st = .idle) :
    w.dpkSource.valid = false := by
  obtain ⟨hdpk, -⟩ := h
  have hforwards : dpkForwards s = false := by simp [dpkForwards, hst]
  rw [← hdpk]
  simp [dpkAccept, dpkOffer, offer, hforwards]

/-- Without a word on `m_rx` no port receives one (R232). -/
theorem inPorts_valid_of_not_valid (h : SysSettled s w) (hv : w.dpkSource.valid = false) (i : Nat) :
    (portChan w.inPorts i).valid = false := by
  obtain ⟨-, hxd, -⟩ := h
  have hports : (xdAccept s (xdOffer s w)).inPorts = w.inPorts := congrArg SysWires.inPorts hxd
  rw [← hports, portChan_eq]
  simp only [xdAccept, xdOffer, hv, Bool.false_and, List.getElem?_zipWith]
  cases s.cfg.tags[i]? <;> cases w.inPorts[i]? <;> rfl

/-- Without a word on `tlr.in` the TLP Receiver offers no lane (R292). -/
theorem tlpRxOut_valid_of_not_valid (h : SysSettled s w)
    (hv : (portChan w.inPorts s.cfg.tlpPort).valid = false) : w.tlpRxOut.valid = false := by
  obtain ⟨-, -, htlr, -⟩ := h
  rw [← htlr]
  simp [tlrAccept, tlrOffer, offer, hv]

/-- The TLP Sender accepts lanes while it fills (R264). -/
theorem tlpTxIn_ready_of_fill (h : SysSettled s w) (hst : s.tls.st = .fill) :
    w.tlpTxIn.ready = true := by
  obtain ⟨-, -, -, htls, -⟩ := h
  rw [← htls]
  simp [tlsAccept, accept, hst]

/-- The arbiter half offers what the granted port offers (R238). -/
theorem mTx_valid_eq (h : SysSettled s w) :
    w.mTx.valid = (portChan w.outPorts s.xbar.grant).valid := by
  obtain ⟨-, -, -, -, hxa, -⟩ := h
  have hmTx : (xaAccept s (xaOffer s w)).mTx = w.mTx := congrArg SysWires.mTx hxa
  rw [← hmTx, portChan_eq]
  simp only [xaAccept, xaOffer]
  cases w.outPorts[s.xbar.grant]? <;> rfl

/-- No port is accepted from while `m_tx` is not (R238). -/
theorem outPorts_ready_of_not_ready (h : SysSettled s w) (hr : w.mTx.ready = false) (i : Nat) :
    (portChan w.outPorts i).ready = false := by
  obtain ⟨-, -, -, -, hxa, -⟩ := h
  have hmTx : (xaOffer s w).mTx.ready = false := by
    rw [← hr, xaOffer]
    dsimp only
    cases w.outPorts[s.xbar.grant]? <;> rfl
  have hports : (xaAccept s (xaOffer s w)).outPorts = w.outPorts := congrArg SysWires.outPorts hxa
  rw [← hports, portChan_eq]
  simp only [xaAccept, hmTx, Bool.and_false, List.getElem?_mapIdx]
  cases (xaOffer s w).outPorts[i]? <;> rfl

/-- An idle Packetizer neither offers nor accepts a word (R173). -/
theorem pkt_off_of_idle (h : SysSettled s w) (hst : s.pkt.st = .idle) :
    w.pktSource.valid = false ∧ w.mTx.ready = false := by
  obtain ⟨-, -, -, -, -, hpkt⟩ := h
  rw [← hpkt]
  simp [pktAccept, pktOffer, offer, accept, hst]

end

/-! ### The inputs of an idle environment -/

section
variable {s : State} {y : SysIn}

theorem settleSys_of_not_rst (h : y.rst = false) :
    settleSys s y = settleOutbound s (settleInbound s (sysInputs s y)) := by
  simp [settleSys, h]

theorem portInput_outValid_of_idle (h : sysIdle y) (k : Nat) :
    (portInput s y k).outValid = false := by
  obtain ⟨-, -, hports⟩ := h
  rw [portInput, List.getD_eq_getElem?_getD]
  cases hk : y.ports[k]? with
  | none => rfl
  | some p => exact hports p (List.mem_of_getElem? hk)

/-- Under an idle environment and a TLP Sender that fills, no port offers a word. -/
theorem outPorts_valid_of_idle (h : sysIdle y) (hst : s.tls.st = .fill) (i : Nat) :
    (portChan (settleSys s y).outPorts i).valid = false := by
  rw [settleSys_of_not_rst h.1, portChan_eq]
  simp only [settleOutbound, settleInbound, tlsAccept, xaAccept, pktAccept, pktOffer, xaOffer,
    tlsOffer, dpkAccept, xdAccept, tlrAccept, tlrOffer, xdOffer, dpkOffer, sysInputs, hst,
    List.getElem?_mapIdx, List.getElem?_modify, List.getElem?_map]
  cases (List.range s.cfg.nPorts)[i]? with
  | none => rfl
  | some k =>
    by_cases hk : s.cfg.tlpPort = i
    · simp [hk, offer, accept]
    · simpa [hk, offer, accept] using portInput_outValid_of_idle h k

end

end Sys2Proof.WireLaws
end

section
/-! The statement on the first tick after reset: what a component with nothing to do selects, and
the wires of that tick. -/

namespace Sys2Proof.LinkBusLaws

open Sys2Proof.Machine Sys2Proof.WireLaws Sys2Proof.EventLaws

/-! ### What a component with nothing to do selects -/

section
variable {u : State}

theorem selects_dpk_of_no_word (hst : u.dpk.st = .idle) (hv : u.sy.dpkSink.valid = false) :
    ∃ t h p a r, selects u .dpk = .ok (.dpkIdleWait t h p a r) :=
  ⟨_, _, _, _, _, by rw [selects_dpk]; simp only [hst, hv]; rfl⟩

theorem selects_pkt_of_no_word (hpkt : u.pkt = Pkt.reset) (hv : u.sy.mTx.valid = false) :
    ∃ h1 h0 a r, selects u .pkt = .ok (.pktIdleWait h1 h0 a r) := by
  have hidx : u.pkt.st ≠ .insertHeader → u.pkt.hidx = 0 := fun _ => by rw [hpkt]; rfl
  exact ⟨_, _, _, _, by rw [selects_pkt u hidx]; simp only [hpkt, hv]; rfl⟩

theorem selects_xd_of_no_word (hv : u.sy.dpkSource.valid = false) :
    ∃ h a r, selects u .xd = .ok (.xdIdle h a r) :=
  ⟨_, _, _, by rw [selects_xd]; simp only [hv]; rfl⟩

theorem selects_xa_of_no_word (hlocked : u.xbar.locked = false)
    (hv : ∀ i, (portChan u.sy.outPorts i).valid = false) :
    ∃ a r, selects u .xa = .ok (.xaPark a r) := by
  have hother : otherRequests u = false := by simp [otherRequests, outValid, hv]
  exact ⟨_, _, by rw [selects_xa]; simp only [outValid, hv, hlocked, hother]; rfl⟩

theorem selects_tls_of_no_lane (hst : u.tls.st = .fill) (hv : u.sy.tlpTxIn.valid = false) :
    ∃ a f h b w r, selects u .tls = .ok (.tlsFillWait a f h b w r) := by
  have hsend : u.tls.st ≠ .send := by simp [hst]
  exact ⟨_, _, _, _, _, _, by
    rw [selects_tls u fun h => absurd h hsend]; simp only [hst, hv]; rfl⟩

theorem selects_tlr_of_no_word (hv : (portChan u.sy.inPorts u.cfg.tlpPort).valid = false) :
    ∃ h a r, selects u .tlr = .ok (.tlrIdle h a r) :=
  ⟨_, _, _, by rw [selects_tlr]; simp only [hv]; rfl⟩

end

/-! ### The wires of the first tick -/

section
variable {c : Cfg} {l : LinkIn} {y : SysIn}

/-- The inbound wires of the first tick: nothing has been received yet. -/
theorem resetWith_inbound (hy : sysIdle y) :
    let w := settleSys (State.resetWith c) y
    w.dpkSink.valid = false ∧ w.dpkSource.valid = false ∧
    (∀ i, (portChan w.inPorts i).valid = false) ∧ w.tlpRxOut.valid = false := by
  have hset := settledWiresAreAFixedPoint.1 (State.resetWith c) y hy.1
  have hsource := dpkSource_valid_of_idle hset rfl
  have hports := inPorts_valid_of_not_valid hset hsource
  have hrxOut := tlpRxOut_valid_of_not_valid hset (hports _)
  exact ⟨(settleSys_pulses hy.1).2.2, hsource, hports, hrxOut⟩

/-- The outbound wires of the first tick: nothing has been offered yet. -/
theorem resetWith_outbound (hy : sysIdle y) :
    let w := settleSys (State.resetWith c) y
    w.tlpTxIn.valid = false ∧ w.tlpTxIn.ready = true ∧
    (∀ i, (portChan w.outPorts i).valid = false ∧ (portChan w.outPorts i).ready = false) ∧
    w.mTx.valid = false ∧ w.mTx.ready = false ∧ w.pktSource.valid = false := by
  have hset := settledWiresAreAFixedPoint.1 (State.resetWith c) y hy.1
  have hlane : (settleSys (State.resetWith c) y).tlpTxIn.valid = false := by
    rw [settleSys_of_not_rst hy.1]
    exact hy.2.1
  have hports := outPorts_valid_of_idle (s := State.resetWith c) hy rfl
  obtain ⟨hsource, hready⟩ := pkt_off_of_idle hset rfl
  exact ⟨hlane, tlpTxIn_ready_of_fill hset rfl,
    fun i => ⟨hports i, outPorts_ready_of_not_ready hset hready i⟩,
    (mTx_valid_eq hset).trans (hports _), hready, hsource⟩

/-- The link wires of the first tick: the receive window is open and `rxq` has room. -/
theorem resetWith_link (hc : c.admitted = true) (hl : linkIdle l) :
    let w := settleLink (State.resetWith c) l
    w.linkRx.ready = true ∧ w.rxqSink.ready = true ∧ w.rxqSink.valid = false ∧
    w.txqSource.valid = false ∧ w.linkTx.valid = false ∧ w.rxWindow = true ∧
    w.txWindow = false := by
  obtain ⟨hrst, hvalid⟩ := hl
  obtain ⟨-, -, -, hdepth, -⟩ := (admitted_iff c).1 hc
  have hroom : sinkReady (State.resetWith c).rxq (State.resetWith c).cfg.rxqDepth = true :=
    decide_eq_true hdepth
  rw [settleLink_of_not_rst _ _ hrst]
  exact ⟨hroom, hroom, hvalid, rfl, rfl, rfl, rfl⟩

end

/-- Settles O31: in the reset state no component has a word to offer, so each selects the operation
that waits, and the receive window is open onto an empty `rxq`. -/
theorem firstTickAfterReset : Obligations.FirstTickAfterReset := by
  intro c l y hc hl hy u
  have hlk : u.lk = settleLink (State.resetWith c) l := openTick_lk _ _ _
  have hsy : u.sy = settleSys (State.resetWith c) y := openTick_sy _ _ _
  obtain ⟨hsink, hsource, hin, hrxOut⟩ := resetWith_inbound (c := c) hy
  obtain ⟨hlane, hlaneReady, hout, hmTx, hmTxReady, hpktSource⟩ := resetWith_outbound (c := c) hy
  obtain ⟨hlinkRx, hrxq, hrxqValid, htxq, hlinkTx, hrxWindow, htxWindow⟩ := resetWith_link hc hl
  rw [← hsy] at hsink hsource hin hrxOut hlane hlaneReady hout hmTx hmTxReady hpktSource
  rw [← hlk] at hlinkRx hrxq hrxqValid htxq hlinkTx hrxWindow htxWindow
  obtain ⟨hlbf, hpkt, hdpk, hxbar, htls, -, -, -⟩ := Regs.mk.inj <|
    (openTick_regs _ _ _ : u.regs = (State.resetWith c).regs).trans (regs_resetWith c)
  have hwt : wantsTransmit u = false := by rw [wantsTransmit, htxq, Bool.false_and]
  exact ⟨⟨_, _, selects_receive_notTx (congrArg Lbf.st hlbf) hwt⟩,
    selects_dpk_of_no_word (congrArg Dpk.st hdpk) hsink, selects_pkt_of_no_word hpkt hmTx,
    selects_xd_of_no_word hsource,
    selects_xa_of_no_word (congrArg Xbar.locked hxbar) fun i => (hout i).1,
    selects_tls_of_no_lane (congrArg Tls.st htls) hlane, selects_tlr_of_no_word (hin _),
    hlinkRx.trans hrxq.symm, hrxq, hrxWindow, htxWindow, hlaneReady, hrxqValid, hlinkTx, hsource,
    hin, hrxOut, (hout _).1, hmTx, hpktSource, (hout 0).2, hmTxReady⟩

end Sys2Proof.LinkBusLaws
end

section
/-! SUPPORT. A whole event on a core at rest: every site of a tick executes, the TLP Sender and the
Packetizer keep their invariants, and the Link-Bus FSM goes on by its pure next-state function
exactly if its domain ticks. -/

namespace Sys2Proof.EventLaws

open Sys2Proof.Machine Sys2Proof.PacketizerLaws

/-! ### The step of a site is its operation alone -/

section
variable {s : State} {rest : List Site}

theorem controlWord_setAgenda (s : State) (rest : List Site) (site : Site) :
    controlWord (s.setAgenda rest) site = controlWord s site := by
  cases site <;> rfl

theorem step_eq_runSite {site : Site} (ha : s.agenda = site :: rest) :
    step s = runSite site (s.setAgenda rest) := by
  cases hd : decode site (controlWord s site) with
  | ok i => simp only [step, ha, runSite, selects, controlWord_setAgenda, hd]
  | error why => simp only [step, ha, runSite, selects, controlWord_setAgenda, hd]

end

/-! ### The pure next-state functions of the Link-Bus FSM, the Packetizer and the TLP Sender -/

section
variable {s : State}

/-- Whichever operation the Link-Bus FSM selects, it writes the next registers of R144 and R148 to
R157. -/
theorem runSite_lbf (s : State) :
    runSite .lbf s = .next ((driveLbf s).setLbf (nextLbf s.cfg s.lbf s.lk)) := by
  have hop : runSite .lbf s = .next (lbfTick (nextLbf s.cfg s.lbf s.lk).st s) := by
    rw [runSite_of_selects (selects_lbf s)]
    simp only [nextLbf]
    cases s.lbf.st with
    | receive =>
      change _ = Host.Outcome.next
        (lbfTick (nextLbfSt .receive (wantsTransmit s) (wantsReceive s) (rxMax s)) s)
      cases wantsTransmit s <;> cases wantsReceive s <;> cases rxMax s <;> rfl
    | receiveToTransmit => rfl
    | transmit =>
      change _ = Host.Outcome.next
        (lbfTick (nextLbfSt .transmit (wantsTransmit s) (wantsReceive s) (txMax s)) s)
      cases wantsReceive s <;> cases wantsTransmit s <;> cases txMax s <;> rfl
    | transmitToReceive => rfl
  rw [hop, LinkBusLaws.lbfTick_eq]
  rfl

/-- A Packetizer outside `INSERT_HEADER` has `pkt.hidx` 0 after every tick (R29). -/
theorem nextPkt_hidx {p : Pkt} (w : SysWires) (h : p.st ≠ .insertHeader → p.hidx = 0) :
    (nextPkt p w).st ≠ .insertHeader → (nextPkt p w).hidx = 0 := by
  obtain ⟨st, x⟩ := p
  cases st <;> simp only [nextPkt] <;> (repeat' split) <;> simp_all

/-- Whichever operation the TLP Sender selects, it writes the next registers of R266 to R274. -/
theorem runSite_tls {depth : Nat} (h : TlsInv depth s.tls) :
    runSite .tls s = .next ((driveTls s).setTls (nextTls s.cfg s.tls s.sy)) := by
  have hself : driveTls s = (driveTls s).setTls s.tls := rfl
  rw [runSite_of_selects (selects_tls s (TlsInv.lastWord_eq_false h))]
  cases hst : s.tls.st with
  | fill =>
    have hfull : fillsQueue s = ((s.tls.q ++ [(⟨s.sy.tlpTxIn.pay.data, s.sy.tlpTxIn.pay.be⟩ :
        LaneEntry)]).length == s.cfg.tlpTxqDepth) := by
      rw [List.length_append]
      rfl
    simp only [nextTls, hst, ← hfull]
    cases s.sy.tlpTxIn.valid
    · exact congrArg _ hself
    · cases s.sy.tlpTxIn.pay.last
      · cases fillsQueue s
        · simp [exec, execTlsFillPush, bufferLane, Tls.push, hst]
        · rfl
      · rfl
  | send =>
    have hlast : tlsLastWord s = decide (s.tls.sent + 1 = s.tls.wcount) := rfl
    have hupper : headHasUpper s =
        decide ((s.tls.q.head?.map fun l => laneWords l.be) = some 2) := by
      unfold headHasUpper
      cases s.tls.q with
      | nil => rfl
      | cons l q => simp; rfl
    simp only [nextTls, hst, hlast, hupper, decide_eq_true_eq]
    cases (portChan s.sy.outPorts s.cfg.tlpPort).ready
    · exact congrArg _ hself
    · by_cases hl : s.tls.sent + 1 = s.tls.wcount
      · simp [exec, execTlsSendLast, Tls.pop, hl]
      · cases hhalf : s.tls.half
        · by_cases hu : (s.tls.q.head?.map fun l => laneWords l.be) = some 2
          · simp [exec, execTlsSendLowMore, hl, hu, hst]
          · simp [exec, execTlsSendLowPop, Tls.pop, hl, hu, hst, hhalf]
        · simp [exec, execTlsSendHighPop, Tls.pop, hl, hst]

theorem queuedWords_cons (l : LaneEntry) (q : List LaneEntry) :
    queuedWords (l :: q) = laneWords l.be + queuedWords q := rfl

/-- Where the TLP Sender sends, the head lane's words are among those still to send (R276). -/
theorem tlsInv_send_iff {depth : Nat} {q : List LaneEntry} {n k : Nat} {half : Bool} :
    TlsInv depth ⟨.send, q, n, k, half⟩ ↔
      ∃ l q', q = l :: q' ∧ 1 ≤ n ∧ k + laneWords l.be + queuedWords q' = n + half.toNat ∧
        (half = true → laneWords l.be = 2) ∧ q'.length + 1 ≤ depth := by
  cases q with
  | nil => simp [TlsInv]
  | cons l q' => simp [TlsInv, queuedWords, Nat.add_assoc]

/-- After a lane has been popped, words left to send are words of a next lane. -/
theorem tlsInv_send_popped {depth : Nat} {q : List LaneEntry} {n k : Nat}
    (hsum : k + queuedWords q = n) (hmore : k < n) (hlen : q.length ≤ depth) :
    TlsInv depth ⟨.send, q, n, k, false⟩ := by
  cases q with
  | nil => exact absurd hsum (by simp only [queuedWords]; omega)
  | cons l q' =>
    rw [queuedWords_cons] at hsum
    have hsum' : k + laneWords l.be + queuedWords q' = n + false.toNat :=
      (Nat.add_assoc _ _ _).trans hsum
    exact tlsInv_send_iff.2 ⟨l, q', rfl, by omega, hsum', nofun, hlen⟩

/-- A tick of the TLP Sender keeps R276. -/
theorem tlsInv_nextTls {c : Cfg} {t : Tls} (w : SysWires) (h : TlsInv c.tlpTxqDepth t) :
    TlsInv c.tlpTxqDepth (nextTls c t w) := by
  obtain ⟨st, q, n, k, half⟩ := t
  cases st with
  | fill =>
    have hinv : q.length < c.tlpTxqDepth ∧ n = queuedWords q := h
    have hlane := laneWords_cases w.tlpTxIn.pay.be
    simp only [nextTls]
    split
    · split
      case isTrue hclose =>
        have hpos : 1 ≤ laneWords w.tlpTxIn.pay.be := by omega
        exact ⟨by simp, Nat.le_add_left_of_le hpos,
          by simp [hinv.2, queuedWords_append, queuedWords], nofun, by simpa using hinv.1⟩
      case isFalse hopen =>
        simp only [Bool.or_eq_true, beq_iff_eq, not_or, List.length_append,
          List.length_singleton] at hopen
        simp only [TlsInv, List.length_append, queuedWords_append, queuedWords,
          List.length_singleton]
        omega
    · exact h
  | send =>
    obtain ⟨l, q', rfl, hn, hsum, hhalf, hlen⟩ := tlsInv_send_iff.1 h
    have hlane := laneWords_cases l.be
    simp only [nextTls, List.tail_cons, List.head?_cons, Option.map_some, Option.some.injEq]
    split
    · split
      case isTrue hlast =>
        have hrest : queuedWords q' = 0 := by
          cases half with
          | false => simp only [Bool.toNat_false] at hsum; omega
          | true => have := hhalf rfl; simp only [Bool.toNat_true] at hsum; omega
        exact ⟨hlen, hrest.symm⟩
      case isFalse hmore =>
        cases half with
        | true =>
          have htwo := hhalf rfl
          simp only [Bool.toNat_true] at hsum
          exact tlsInv_send_popped (by omega) (by omega) (by omega)
        | false =>
          simp only [Bool.toNat_false] at hsum
          rw [if_neg Bool.false_ne_true]
          split
          case isTrue htwo =>
            have hsum' : k + 1 + laneWords l.be + queuedWords q' = n + 1 := by omega
            exact tlsInv_send_iff.2 ⟨l, q', rfl, hn, hsum', fun _ => htwo, hlen⟩
          case isFalse hone => exact tlsInv_send_popped (by omega) (by omega) (by omega)
    · exact h

end

end Sys2Proof.EventLaws
end

section
/-! SUPPORT. A whole event on a core at rest goes through, and moves the Link-Bus FSM exactly if the
link domain ticks in it. -/

namespace Sys2Proof.EventLaws

open Sys2Proof.Machine Sys2Proof.PacketizerLaws

/-! ### One site of a tick under way -/

/-- What a tick under way needs to go on: the configuration is admitted, the Packetizer and the TLP
Sender keep their invariants, and every site left presents a word that selects an operation. -/
structure Underway (s : State) : Prop where
  admitted : s.cfg.admitted = true
  hidx     : s.pkt.st ≠ .insertHeader → s.pkt.hidx = 0
  tls      : TlsInv s.cfg.tlpTxqDepth s.tls
  noTlsq   : Site.fq .tlsq ∉ s.agenda
  live     : Live s

/-- `lbf` after the operation of a site: only the Link-Bus FSM and its reset write it. -/
def lbfAfterSite (s : State) : Site → Lbf
  | .lbf => nextLbf s.cfg s.lbf s.lk
  | .rstLink => Lbf.reset s.cfg
  | _ => s.lbf

/-- What the step of a site does to all that a tick under way, and the Link-Bus FSM, depend on. -/
structure SiteStep (site : Site) (s t : State) : Prop where
  agenda      : s.agenda = site :: t.agenda
  cfg         : t.cfg = s.cfg
  started     : t.started = s.started
  pendingTags : t.pendingTags = s.pendingTags
  linkRst     : t.lk.rst = s.lk.rst
  sysRst      : t.sy.rst = s.sy.rst
  sinkPay     : site ≠ .rstSys → t.sy.dpkSink.pay = s.sy.dpkSink.pay
  lbf         : t.lbf = lbfAfterSite s site
  lk          : site ≠ .lbf → site ≠ .rstLink → t.lk.withoutXfer = s.lk.withoutXfer
  hidx        : (s.pkt.st ≠ .insertHeader → s.pkt.hidx = 0) →
    t.pkt.st ≠ .insertHeader → t.pkt.hidx = 0
  tls         : TlsInv s.cfg.tlpTxqDepth s.tls → TlsInv s.cfg.tlpTxqDepth t.tls

section
variable {s t : State} {site : Site} {rest : List Site}

theorem SiteStep.underway (k : SiteStep site s t) (h : Underway s) : Underway t := by
  have hmem : ∀ {a}, a ∈ t.agenda → a ∈ s.agenda := fun ha =>
    k.agenda ▸ List.mem_cons_of_mem _ ha
  refine ⟨k.cfg ▸ h.admitted, k.hidx h.hidx, k.cfg ▸ k.tls h.tls, fun ha => h.noTlsq (hmem ha), ?_⟩
  refine ⟨?_, fun a ha => h.live.noRegPort a (hmem ha),
    fun ha => k.linkRst.trans (h.live.linkReset (hmem ha)),
    fun ha => k.sysRst.trans (h.live.sysReset (hmem ha)), fun ha => ?_⟩
  · rw [k.started, k.pendingTags]
    exact h.live.elaborated
  · obtain ⟨hpay, hno⟩ := h.live.frameStart (hmem ha)
    have hsite : site ≠ .rstSys := fun e => hno (by rw [k.agenda, e]; exact List.mem_cons_self)
    exact ⟨(k.sinkPay hsite).trans hpay, fun hrst => hno (hmem hrst)⟩

theorem lbfAfterSite_of_ne (hlbf : site ≠ .lbf) (hrst : site ≠ .rstLink) :
    lbfAfterSite s site = s.lbf := by
  cases site with
  | lbf => exact absurd rfl hlbf
  | rstLink => exact absurd rfl hrst
  | _ => rfl

/-- A site that writes the system domain's components and wires and the cross-domain FIFOs alone. -/
theorem SiteStep.ofSys {p : Pkt} {d : Dpk} {x : Xbar} {v : Tls} {r : Tlr} {q q' : Afifo}
    {w : SysWires} (ha : s.agenda = site :: rest) (hlbf : site ≠ .lbf) (hlink : site ≠ .rstLink)
    (hrst : w.rst = s.sy.rst) (hpay : site ≠ .rstSys → w.dpkSink.pay = s.sy.dpkSink.pay)
    (hidx : (s.pkt.st ≠ .insertHeader → s.pkt.hidx = 0) → p.st ≠ .insertHeader → p.hidx = 0)
    (htls : TlsInv s.cfg.tlpTxqDepth s.tls → TlsInv s.cfg.tlpTxqDepth v) :
    SiteStep site s { s with
      agenda := rest, pkt := p, dpk := d, xbar := x, tls := v, tlr := r, rxq := q, txq := q'
      sy := w } :=
  ⟨ha, rfl, rfl, rfl, rfl, hrst, hpay, (lbfAfterSite_of_ne hlbf hlink).symm, fun _ _ => rfl, hidx,
    htls⟩

/-- A word of a frame writes `dpk`, or wires other than the word and the reset. -/
theorem siteStep_lp {k : FramePos} (ha : s.agenda = .lp k :: rest)
    (hk : k = .w0 → s.sy.dpkSink.pay = preamble) :
    ∃ t, step s = .next t ∧ SiteStep (.lp k) s t := by
  cases k with
  | w0 =>
    exact ⟨_, step_of_selects ha (selects_lp_w0 s (hk rfl)),
      .ofSys ha nofun nofun rfl (fun _ => rfl) id id⟩
  | w1 =>
    exact ⟨_, step_of_selects ha (i := .lpW1 _ _) rfl,
      .ofSys ha nofun nofun rfl (fun _ => rfl) id id⟩
  | w2 =>
    exact ⟨_, step_of_selects ha (i := .lpW2 _) rfl,
      .ofSys ha nofun nofun rfl (fun _ => rfl) id id⟩
  | payload =>
    exact ⟨_, step_of_selects ha (i := .lpPayload _) rfl,
      .ofSys ha nofun nofun rfl (fun _ => rfl) id id⟩

theorem siteStep_ch {c : ChanId} (ha : s.agenda = .ch c :: rest) :
    ∃ t, step s = .next t ∧ SiteStep (.ch c) s t :=
  ⟨_, step_ch ha, by simpa using ha, by simp, by simp, by simp, by simp, by simp, by simp,
    by simp [lbfAfterSite], fun _ _ => ChannelLaws.setXfer_lk_withoutXfer _ _ _, by simp, by simp⟩

theorem siteStep_lbf (ha : s.agenda = .lbf :: rest) :
    ∃ t, step s = .next t ∧ SiteStep .lbf s t :=
  ⟨_, (step_eq_runSite ha).trans (runSite_lbf _), ha, rfl, rfl, rfl, rfl, rfl, fun _ => rfl, rfl,
    fun h => absurd rfl h, id, id⟩

theorem siteStep_rstLink (h : Underway s) (ha : s.agenda = .rstLink :: rest) :
    ∃ t, step s = .next t ∧ SiteStep .rstLink s t := by
  have hrst : s.lk.rst = true := h.live.linkReset (by simp [ha])
  refine ⟨_, step_rstLink ha hrst, ?_⟩
  rw [resetLinkDomain_eq]
  exact ⟨ha, rfl, rfl, rfl, hrst.symm, rfl, fun _ => rfl, rfl, fun _ h => absurd rfl h, id, id⟩

theorem siteStep_rstSys (h : Underway s) (ha : s.agenda = .rstSys :: rest) :
    ∃ t, step s = .next t ∧ SiteStep .rstSys s t := by
  have hrst : s.sy.rst = true := h.live.sysReset (by simp [ha])
  obtain ⟨-, -, -, -, -, hdepth⟩ := (admitted_iff s.cfg).1 h.admitted
  refine ⟨_, step_rstSys ha hrst, ?_⟩
  rw [resetSysDomain_eq]
  exact .ofSys ha nofun nofun hrst.symm (absurd rfl) (fun _ _ => rfl) fun _ => ⟨hdepth, rfl⟩

/-- In a tick under way every site executes. -/
theorem Underway.siteStep (h : Underway s) (ha : s.agenda = site :: rest) :
    ∃ t, step s = .next t ∧ SiteStep site s t := by
  have hmem : site ∈ s.agenda := by simp [ha]
  cases site with
  | ch c => exact siteStep_ch ha
  | lbf => exact siteStep_lbf ha
  | rstLink => exact siteStep_rstLink h ha
  | rstSys => exact siteStep_rstSys h ha
  | lp k => exact siteStep_lp ha fun hk => (h.live.frameStart (hk ▸ hmem)).1
  | regPort t => exact absurd hmem (h.live.noRegPort t)
  | fq q =>
    cases q with
    | rxq => exact ⟨_, step_rxq ha, .ofSys ha nofun nofun rfl (fun _ => rfl) id id⟩
    | txq => exact ⟨_, step_txq ha, .ofSys ha nofun nofun rfl (fun _ => rfl) id id⟩
    | tlsq => exact absurd hmem h.noTlsq
  | sync q v f =>
    cases q <;> exact ⟨_, step_sync ha, .ofSys ha nofun nofun rfl (fun _ => rfl) id id⟩
  | dpk =>
    obtain ⟨d, -, hstep⟩ := step_dpk ha
    exact ⟨_, hstep, .ofSys ha nofun nofun rfl (fun _ => rfl) id id⟩
  | xd =>
    obtain ⟨x, -, hstep⟩ := step_xd ha
    exact ⟨_, hstep, .ofSys ha nofun nofun rfl (fun _ => rfl) id id⟩
  | xa =>
    obtain ⟨x, -, hstep⟩ := step_xa ha
    exact ⟨_, hstep, .ofSys ha nofun nofun rfl (fun _ => rfl) id id⟩
  | tlr =>
    obtain ⟨v, hstep⟩ := step_tlr ha
    exact ⟨_, hstep, .ofSys ha nofun nofun rfl (fun _ => rfl) id id⟩
  | tls =>
    exact ⟨_, (step_eq_runSite ha).trans (runSite_tls (s := s.setAgenda rest) h.tls),
      .ofSys ha nofun nofun rfl (fun _ => rfl) id (tlsInv_nextTls _)⟩
  | pkt =>
    exact ⟨_, (step_eq_runSite ha).trans (runSite_pkt (s := s.setAgenda rest) rfl h.hidx),
      .ofSys ha nofun nofun rfl (fun _ => rfl) (nextPkt_hidx _) id⟩

end

end Sys2Proof.EventLaws
end

section
/-! SUPPORT. The Link-Bus FSM over a whole event. -/

namespace Sys2Proof.EventLaws

open Sys2Proof.Machine

/-! ### The sites of a tick in turn -/

/-- The configuration and the Link-Bus FSM are the same, and so are the link wires but for their
transfer flags. -/
structure LbfKept (s t : State) : Prop where
  cfg : t.cfg = s.cfg
  lbf : t.lbf = s.lbf
  lk  : t.lk.withoutXfer = s.lk.withoutXfer

theorem LbfKept.refl (s : State) : LbfKept s s := ⟨rfl, rfl, rfl⟩

theorem LbfKept.trans {s t u : State} (h : LbfKept s t) (k : LbfKept t u) : LbfKept s u :=
  ⟨k.cfg.trans h.cfg, k.lbf.trans h.lbf, k.lk.trans h.lk⟩

/-- The sites that write the Link-Bus FSM. -/
def writesLbf : Site → Bool
  | .lbf | .rstLink => true
  | _ => false

section
variable {s t : State} {site : Site} {rest : List Site}

theorem SiteStep.lbfKept (k : SiteStep site s t) (h : writesLbf site = false) : LbfKept s t := by
  have hlbf : site ≠ .lbf := fun e => by simp [e, writesLbf] at h
  have hrst : site ≠ .rstLink := fun e => by simp [e, writesLbf] at h
  exact ⟨k.cfg, k.lbf.trans (lbfAfterSite_of_ne hlbf hrst), k.lk hlbf hrst⟩

/-- Sites other than the Link-Bus FSM and its reset leave it alone. -/
theorem Underway.runs_kept {sites : List Site} (h : Underway s) (ha : s.agenda = sites ++ rest)
    (hsites : ∀ site ∈ sites, writesLbf site = false) :
    ∃ t, Runs s t ∧ t.agenda = rest ∧ Underway t ∧ LbfKept s t := by
  refine runs_of_keeps (P := fun t => Underway t ∧ LbfKept s t) ?_ ⟨h, .refl s⟩ ha
  rintro site hsite u rest' ⟨hu, hkept⟩ hau
  obtain ⟨t, hstep, k⟩ := hu.siteStep hau
  exact ⟨t, hstep, (List.cons.inj (k.agenda.symm.trans hau)).2, k.underway hu,
    hkept.trans (k.lbfKept (hsites site hsite))⟩

/-- One site executes. -/
theorem Underway.runs_site (h : Underway s) (ha : s.agenda = site :: rest) :
    ∃ t, Runs s t ∧ t.agenda = rest ∧ Underway t ∧ t.cfg = s.cfg ∧
      t.lbf = lbfAfterSite s site := by
  obtain ⟨t, hstep, k⟩ := h.siteStep ha
  exact ⟨t, .cons k.agenda hstep (.refl t), (List.cons.inj (k.agenda.symm.trans ha)).2,
    k.underway h, k.cfg, k.lbf⟩

/-- `lbf` after the link domain's part of a tick, on the state that the tick opens. -/
def lbfAfterLink (s : State) : Option LinkIn → Lbf
  | none => s.lbf
  | some i => if i.rst then Lbf.reset s.cfg else nextLbf s.cfg s.lbf s.lk

/-- The next state of the Link-Bus FSM reads no transfer flag. -/
theorem nextLbf_withoutXfer (c : Cfg) (l : Lbf) (w : LinkWires) :
    nextLbf c l w = nextLbf c l w.withoutXfer := rfl

/-- The link domain's part of a tick. -/
theorem Underway.runs_link (h : Underway s) (link : Option LinkIn)
    (ha : s.agenda = linkSitesOf link ++ rest) :
    ∃ t, Runs s t ∧ t.agenda = rest ∧ Underway t ∧ t.cfg = s.cfg ∧
      t.lbf = lbfAfterLink s link := by
  cases link with
  | none => exact ⟨s, .refl s, ha, h, rfl, rfl⟩
  | some i =>
    cases hi : i.rst with
    | true =>
      rw [linkSitesOf_reset hi] at ha
      rw [lbfAfterLink, if_pos hi]
      exact h.runs_site ha
    | false =>
      have hsites : linkSitesOf (some i) = linkChannels.map .ch ++ [.lbf] := by
        simp [linkSitesOf, linkSites, hi]
      rw [hsites, List.append_assoc] at ha
      obtain ⟨c, rc, hc, hcu, kept⟩ := h.runs_kept ha (by simp [linkChannels, writesLbf])
      obtain ⟨t, rt, ht, htu, hcfg, hlbf⟩ := hcu.runs_site hc
      refine ⟨t, rc.trans rt, ht, htu, hcfg.trans kept.cfg, hlbf.trans ?_⟩
      simp only [lbfAfterSite, lbfAfterLink, hi, Bool.false_eq_true, if_false]
      rw [nextLbf_withoutXfer, kept.cfg, kept.lbf, kept.lk, ← nextLbf_withoutXfer]

end

/-! ### The sites that a tick lists -/

/-- The component halves of the system domain. -/
def sysComponents : List Site := [.dpk, .xd, .tlr, .tls, .xa, .pkt]

/-- The sites that a tick with these inputs lists on the state `u`: a reset only where its input is
1, a word of a frame only where its domain is not reset, and as `W0` only the preamble. -/
inductive Listed (u : State) (link : Option LinkIn) (sys : Option SysIn) : Site → Prop
  | ch (c : ChanId) : Listed u link sys (.ch c)
  | rxq : Listed u link sys (.fq .rxq)
  | txq : Listed u link sys (.fq .txq)
  | lbf {i : LinkIn} (h : link = some i) : Listed u link sys .lbf
  | sys {site : Site} (h : site ∈ sysComponents) : Listed u link sys site
  | rstLink {i : LinkIn} (h : link = some i) (hi : i.rst = true) : Listed u link sys .rstLink
  | rstSys {i : SysIn} (h : sys = some i) (hi : i.rst = true) : Listed u link sys .rstSys
  | lp {i : SysIn} {k : FramePos} (h : sys = some i) (hi : i.rst = false)
      (hk : k = .w0 → u.sy.dpkSink.pay = preamble) : Listed u link sys (.lp k)

section
variable {u : State} {link : Option LinkIn} {sys : Option SysIn} {site : Site}

theorem listed_of_mem_linkSites {i : LinkIn} (hlink : link = some i) (h : site ∈ linkSites i) :
    Listed u link sys site := by
  unfold linkSites at h
  cases hi : i.rst with
  | true =>
    obtain rfl : site = .rstLink := by simpa [hi] using h
    exact .rstLink hlink hi
  | false =>
    simp only [hi, Bool.false_eq_true, if_false, List.mem_append, List.mem_map,
      List.mem_singleton] at h
    rcases h with ⟨c, -, rfl⟩ | rfl
    · exact .ch c
    · exact .lbf hlink

theorem listed_of_mem_sysSites {i : SysIn} (hsys : sys = some i) (h : site ∈ sysSites u i) :
    Listed u link sys site := by
  unfold sysSites at h
  cases hi : i.rst with
  | true =>
    obtain rfl : site = .rstSys := by simpa [hi] using h
    exact .rstSys hsys hi
  | false =>
    simp only [hi, Bool.false_eq_true, if_false, List.mem_append, List.mem_map,
      List.mem_singleton] at h
    rcases h with ((⟨c, -, rfl⟩ | rfl) | hframe) | hrest
    · exact .ch c
    · exact .sys List.mem_cons_self
    · rcases frameSite_cases u with hnone | ⟨k, hk, hw0⟩
      · exact absurd hframe (by simp [hnone])
      · obtain rfl : site = .lp k := by simpa [hk] using hframe
        exact .lp hsys hi hw0
    · exact .sys (List.mem_cons_of_mem _ hrest)

theorem listed_of_mem_fifoSites (h : site ∈ fifoSites) : Listed u link sys site := by
  simp only [fifoSites, List.mem_cons, List.not_mem_nil, or_false] at h
  rcases h with rfl | rfl
  · exact .rxq
  · exact .txq

theorem listed_of_mem_openTick {s : State} (h : site ∈ (openTick s link sys).agenda) :
    Listed (openTick s link sys) link sys site := by
  rcases mem_openTick_agenda h with ⟨i, hlink, hmem⟩ | ⟨i, hsys, hmem⟩ | hmem
  · exact listed_of_mem_linkSites hlink hmem
  · exact listed_of_mem_sysSites hsys hmem
  · exact listed_of_mem_fifoSites hmem

end

section
variable {u : State} {link : Option LinkIn} {sys : Option SysIn}

theorem not_listed_tlsq : ¬ Listed u link sys (.fq .tlsq) := by
  rintro (_ | _ | _ | _ | hmem)
  exact absurd hmem (by decide)

theorem not_listed_regPort (t : Tag) : ¬ Listed u link sys (.regPort t) := by
  rintro (_ | _ | _ | _ | hmem)
  exact absurd hmem (by simp [sysComponents])

theorem rst_of_listed_rstLink (h : Listed u link sys .rstLink) :
    ∃ i, link = some i ∧ i.rst = true := by
  obtain _ | _ | _ | _ | hmem | ⟨hlink, hi⟩ := h
  · exact absurd hmem (by decide)
  · exact ⟨_, hlink, hi⟩

theorem rst_of_listed_rstSys (h : Listed u link sys .rstSys) :
    ∃ i, sys = some i ∧ i.rst = true := by
  obtain _ | _ | _ | _ | hmem | _ | ⟨hsys, hi⟩ := h
  · exact absurd hmem (by decide)
  · exact ⟨_, hsys, hi⟩

theorem start_of_listed_w0 (h : Listed u link sys (.lp .w0)) :
    u.sy.dpkSink.pay = preamble ∧ ∃ i, sys = some i ∧ i.rst = false := by
  obtain _ | _ | _ | _ | hmem | _ | _ | ⟨hsys, hi, hk⟩ := h
  · exact absurd hmem (by decide)
  · exact ⟨hk rfl, _, hsys, hi⟩

end

section
variable {s : State}

/-- A tick that opens is under way. -/
theorem Underway.openTick (h : Underway s) (link : Option LinkIn) (sys : Option SysIn) :
    Underway (openTick s link sys) := by
  refine ⟨by simpa using h.admitted, by simpa using h.hidx, by simpa using h.tls,
    fun hmem => not_listed_tlsq (listed_of_mem_openTick hmem), .inl (by simp),
    fun t hmem => not_listed_regPort t (listed_of_mem_openTick hmem), fun hmem => ?link,
    fun hmem => ?sys, fun hmem => ?frame⟩
  case link =>
    obtain ⟨i, rfl, hi⟩ := rst_of_listed_rstLink (listed_of_mem_openTick hmem)
    rw [openTick_lk, linkWiresOf_reset _ hi]
  case sys =>
    obtain ⟨i, rfl, hi⟩ := rst_of_listed_rstSys (listed_of_mem_openTick hmem)
    rw [openTick_sy, sysWiresOf_reset _ hi]
  case frame =>
    obtain ⟨hpay, i, rfl, hi⟩ := start_of_listed_w0 (listed_of_mem_openTick hmem)
    refine ⟨hpay, fun hrst => ?_⟩
    obtain ⟨j, hj, hjrst⟩ := rst_of_listed_rstSys (listed_of_mem_openTick hrst)
    obtain rfl := Option.some.inj hj
    exact Bool.false_ne_true (hi.symm.trans hjrst)

/-- Without a link tick no site writes the Link-Bus FSM. -/
theorem Listed.writesLbf {u : State} {sys : Option SysIn} {site : Site}
    (h : Listed u none sys site) : writesLbf site = false := by
  cases h with
  | sys hmem => revert hmem site; decide
  | lbf h => cases h
  | rstLink h => cases h
  | _ => rfl

theorem listed_of_mem_sysSitesOf {u : State} {link : Option LinkIn} {sys : Option SysIn}
    {site : Site} (h : site ∈ sysSitesOf u sys ++ fifoSites) : Listed u link sys site := by
  rcases List.mem_append.1 h with hmem | hmem
  · cases sys with
    | none => exact absurd hmem List.not_mem_nil
    | some i => exact listed_of_mem_sysSites rfl hmem
  · exact listed_of_mem_fifoSites hmem

end

end Sys2Proof.EventLaws
end

section
/-! The statement on the two windows of the Link-Bus FSM: what a whole event leaves in it, and what
the windows of the next link tick then are. -/

namespace Sys2Proof.EventLaws

open Sys2Proof.Machine

/-! ### The Link-Bus FSM over an event -/

/-- `lbf` after a tick with this input of the link domain. -/
def lbfAfterTick (s : State) : Option LinkIn → Lbf
  | none => s.lbf
  | some i => if i.rst then Lbf.reset s.cfg else nextLbf s.cfg s.lbf (settleLink s i)

/-- A core at rest from which every event goes through. -/
structure Ready (s : State) : Prop where
  agenda   : s.agenda = []
  underway : Underway s

section
variable {s t : State}

theorem Ready.ofInv (hinv : Inv s) (h : AtRest s) : Ready s :=
  ⟨h.1, hinv.admitted, hinv.hidx, hinv.tls, hinv.noTlsq, AtRest.live h⟩

theorem Ready.atRest (h : Ready s) : AtRest s := ⟨h.agenda, h.underway.live.elaborated⟩

theorem Underway.opening (h : Underway s) : Underway (opening s) := by
  obtain ⟨hadm, hidx, htls, hq, helab, hport, hlink, hsys, hframe⟩ := h
  exact ⟨hadm, hidx, htls, hq, helab, hport, hlink, hsys, hframe⟩

/-- The wires settle with the count of the event, on which the FSM's wants do not depend. -/
theorem lbfAfterLink_openTick (link : Option LinkIn) (sys : Option SysIn) :
    lbfAfterLink (openTick (opening s) link sys) link = lbfAfterTick s link := by
  have hlbf : (openTick (opening s) link sys).lbf = s.lbf :=
    congrArg Regs.lbf (openTick_regs (opening s) link sys)
  cases link with
  | none => exact hlbf
  | some i =>
    rw [lbfAfterLink, lbfAfterTick, hlbf, openTick_cfg, openTick_lk, opening_cfg, linkWiresOf]
    cases hi : i.rst with
    | true => rfl
    | false =>
      rw [LinkBusLaws.settleLink_of_not_rst _ _ hi, LinkBusLaws.settleLink_of_not_rst _ _ hi]
      rfl

/-- A tick of any domains goes through, and moves the Link-Bus FSM as the link domain's input
says. -/
theorem Ready.perform_tick (h : Ready s) (link : Option LinkIn) (sys : Option SysIn) :
    ∃ t, perform (.tick link sys) s = .next t ∧ Ready t ∧ t.cfg = s.cfg ∧
      t.lbf = lbfAfterTick s link := by
  obtain ⟨c, rc, hc, hcu, hcfg, hlbf⟩ :=
    (h.underway.opening.openTick link sys).runs_link link (openTick_agenda link sys)
  obtain ⟨t, rt, ht, htu, kept⟩ := hcu.runs_kept (hc.trans (List.append_nil _).symm)
    fun _ hmem => (listed_of_mem_sysSitesOf hmem).writesLbf
  refine ⟨t, EventLaws.perform_tick h.underway.admitted h.atRest (rc.trans rt) ht, ⟨ht, htu⟩, ?_,
    ?_⟩
  · rw [kept.cfg, hcfg, openTick_cfg, opening_cfg]
  · rw [kept.lbf, hlbf, lbfAfterLink_openTick]

theorem perform_sync_lbf (h : AtRest s) (q : CrossFifo) (v f : Nat) :
    ∃ t, perform (.sync q v f) s = .next t ∧ t.lbf = s.lbf := by
  have hstep := step_sync (s := (opening s).setAgenda [.sync q v f]) (rest := []) rfl
  cases q <;> exact ⟨_, perform_sync h (.one rfl hstep rfl) rfl, rfl⟩

end

end Sys2Proof.EventLaws

namespace Sys2Proof.LinkBusLaws

open Sys2Proof.Machine Sys2Proof.EventLaws

/-! ### The windows -/

section
variable (s : State) (i : LinkIn)

/-- The receive window is open in `RECEIVE`, outside reset (R146, R318). -/
theorem settleLink_rxWindow : (settleLink s i).rxWindow = (!i.rst && inRxWindow s) := by
  cases hi : i.rst <;> simp [settleLink, hi, lbfWires, LinkWires.off]

/-- The transmit window is open in `TRANSMIT`, outside reset (R146, R318). -/
theorem settleLink_txWindow : (settleLink s i).txWindow = (!i.rst && inTxWindow s) := by
  cases hi : i.rst <;> simp [settleLink, hi, lbfWires, LinkWires.off]

/-- The link is ready to receive in the receive window alone. -/
theorem settleLink_linkRx_ready : (settleLink s i).linkRx.ready =
    ((settleLink s i).rxWindow && (settleLink s i).rxqSink.ready) := by
  cases hi : i.rst <;> simp [settleLink, hi, lbfWires, LinkWires.off, accept, offer, chanOff]

/-- The link offers a word in the transmit window alone. -/
theorem settleLink_linkTx_valid : (settleLink s i).linkTx.valid =
    ((settleLink s i).txWindow && (settleLink s i).txqSource.valid) := by
  cases hi : i.rst <;> simp [settleLink, hi, lbfWires, LinkWires.off, accept, offer, chanOff]

theorem windows_exclusive : ((settleLink s i).rxWindow && (settleLink s i).txWindow) = false := by
  rw [settleLink_rxWindow, settleLink_txWindow, inRxWindow, inTxWindow]
  cases i.rst <;> cases s.lbf.st <;> rfl

theorem receive_send_exclusive :
    ((settleLink s i).linkRx.ready && (settleLink s i).linkTx.valid) = false := by
  have h := windows_exclusive s i
  rw [settleLink_linkRx_ready, settleLink_linkTx_valid]
  cases hrx : (settleLink s i).rxWindow
  · simp
  · simp_all

end

/-- No link tick leads from `RECEIVE` to `TRANSMIT`, or back: a turnaround state lies between. -/
theorem nextLbfSt_turnaround (wt wr spent : Bool) :
    nextLbfSt .receive wt wr spent ≠ .transmit ∧ nextLbfSt .transmit wt wr spent ≠ .receive := by
  revert wt wr spent
  decide

section
variable {s t : State} {i : LinkIn}

theorem turnaround_between (ht : t.lbf = lbfAfterTick s (some i)) (hi : i.rst = false) :
    ¬ (s.lbf.st = .receive ∧ t.lbf.st = .transmit) ∧
    ¬ (s.lbf.st = .transmit ∧ t.lbf.st = .receive) := by
  rw [ht, lbfAfterTick, hi, if_neg Bool.false_ne_true, nextLbf]
  constructor
  · rintro ⟨hst, hnext⟩
    rw [hst] at hnext
    exact (nextLbfSt_turnaround _ _ _).1 hnext
  · rintro ⟨hst, hnext⟩
    rw [hst] at hnext
    exact (nextLbfSt_turnaround _ _ _).2 hnext

/-- The windows of two link ticks with none between are not those of opposite directions. -/
theorem windows_of_consecutive_ticks (ht : t.lbf = lbfAfterTick s (some i)) (j : LinkIn) :
    ((settleLink s i).rxWindow && (settleLink t j).txWindow) = false ∧
      ((settleLink s i).txWindow && (settleLink t j).rxWindow) = false := by
  simp only [settleLink_rxWindow, settleLink_txWindow, inRxWindow, inTxWindow]
  cases hi : i.rst with
  | true => exact ⟨rfl, rfl⟩
  | false =>
    obtain ⟨hrx, htx⟩ := turnaround_between ht hi
    simp only [Bool.and_eq_false_iff, beq_eq_false_iff_ne]
    tauto

/-- No event but a link tick writes the Link-Bus FSM. -/
theorem lbf_of_noLinkTick (hr : Ready s) {e : Event} (he : ∀ i sys, e ≠ .tick (some i) sys) :
    ∃ t, perform e s = .next t ∧ t.lbf = s.lbf := by
  cases e with
  | sync q v f => exact perform_sync_lbf hr.atRest q v f
  | tick link sys =>
    cases link with
    | some i => exact absurd rfl (he i sys)
    | none =>
      obtain ⟨t, ht, -, -, hlbf⟩ := hr.perform_tick none sys
      exact ⟨t, ht, hlbf⟩

end

/-- Settles O33: the windows are those of two states of the FSM, a link tick leads from neither to
the other, and no other event moves the FSM. -/
theorem busMutualExclusion : Obligations.BusMutualExclusion := by
  refine ⟨fun s i => ⟨windows_exclusive s i, receive_send_exclusive s i⟩,
    fun s t i sys hinv h ht j => ?consecutive, fun s t e hinv h he ht => ?other⟩
  case consecutive =>
    obtain ⟨u, hu, -, -, hlbf⟩ := (Ready.ofInv hinv h).perform_tick (some i) sys
    obtain rfl := Host.Outcome.next.inj (ht.symm.trans hu)
    exact windows_of_consecutive_ticks hlbf j
  case other =>
    obtain ⟨u, hu, hlbf⟩ := lbf_of_noLinkTick (Ready.ofInv hinv h) he
    obtain rfl := Host.Outcome.next.inj (ht.symm.trans hu)
    exact hlbf

end Sys2Proof.LinkBusLaws
end

section
/-! The statement on the length of a contested window: both directions at once, the budget counted
down tick by tick. -/

namespace Sys2Proof.LinkBusLaws

open Sys2Proof.Machine Sys2Proof.EventLaws

/-- A direction of the link, whose window the FSM holds open. -/
inductive Direction where
  | receive
  | transmit

namespace Direction

/-- The other direction. -/
def other : Direction → Direction
  | .receive => .transmit
  | .transmit => .receive

/-- The state of the FSM in which the window of the direction is open. -/
def window : Direction → LbfSt
  | .receive => .receive
  | .transmit => .transmit

/-- The turnaround state that ends the window. -/
def turnaround : Direction → LbfSt
  | .receive => .receiveToTransmit
  | .transmit => .transmitToReceive

/-- `T_RX` or `T_TX` (R5). -/
def budget (c : Cfg) : Direction → Nat
  | .receive => c.tRx
  | .transmit => c.tTx

/-- The dwell counter of the direction (R144). -/
def time (l : Lbf) : Direction → Nat
  | .receive => l.rxTime
  | .transmit => l.txTime

/-- The link wants to move a word in the direction (R143). -/
def wants (s : State) (i : LinkIn) : Direction → Bool
  | .receive => linkWantsRx s i
  | .transmit => linkWantsTx s i

end Direction

/-! ### One contested tick -/

section
variable {s : State} {d : Direction} {i : LinkIn}

theorem lbfAfterTick_of_not_rst (hi : i.rst = false) :
    lbfAfterTick s (some i) = nextLbf s.cfg s.lbf (lbfWires s (linkInputs s i)) := by
  rw [lbfAfterTick, hi, if_neg Bool.false_ne_true, settleLink_of_not_rst _ _ hi]

/-- A window ends where the other direction wants the bus and its own does not, or has spent its
budget (R148 to R151, R153 to R156). -/
theorem lbfAfterTick_st (hi : i.rst = false) (hst : s.lbf.st = d.window) :
    (lbfAfterTick s (some i)).st =
      if d.other.wants s i && (!d.wants s i || (d.budget s.cfg != 0 && d.time s.lbf == 0)) then
        d.turnaround
      else d.window := by
  rw [lbfAfterTick_of_not_rst hi]
  cases d <;> simp only [nextLbf, hst] <;> rfl

/-- Inside its window a dwell counter counts down (R144). -/
theorem lbfAfterTick_time (hi : i.rst = false) (hst : s.lbf.st = d.window)
    (hbudget : 1 ≤ d.budget s.cfg) :
    d.time (lbfAfterTick s (some i)) = d.time s.lbf - 1 := by
  have hlimit : d.budget s.cfg ≠ 0 := Nat.one_le_iff_ne_zero.1 hbudget
  rw [lbfAfterTick_of_not_rst hi]
  cases d <;> exact (if_neg hlimit).trans (if_pos hst)

end

/-! ### A run of contested ticks -/

/-- The event is a link tick in which the direction wants the bus. -/
def WantingTick (d : Direction) (s : State) (e : Event) : Prop :=
  LinkTick (fun i => d.wants s i = true) e

/-- A core at rest in the window of the direction, whose dwell counter stands at `n`. -/
structure InWindow (d : Direction) (n : Nat) (s : State) : Prop where
  ready  : Ready s
  st     : s.lbf.st = d.window
  budget : 1 ≤ d.budget s.cfg
  time   : d.time s.lbf = n

section
variable {d : Direction} {n : Nat} {s : State} {e : Event}

/-- The last tick of a contested window's budget ends it. -/
theorem InWindow.ends (h : InWindow d 0 s) (he : WantingTick d.other s e) :
    ∃ t, perform e s = .next t ∧ t.lbf.st = d.turnaround := by
  obtain ⟨i, sys, rfl, hi, hother⟩ := he
  obtain ⟨t, ht, -, -, hlbf⟩ := h.ready.perform_tick (some i) sys
  have hspent : (d.budget s.cfg != 0) = true := bne_iff_ne.2 (Nat.one_le_iff_ne_zero.1 h.budget)
  refine ⟨t, ht, ?_⟩
  rw [hlbf, lbfAfterTick_st hi h.st]
  simp [hother, hspent, h.time]

/-- An earlier tick of a contested window ends it, or counts down: this if its own direction wants
the bus, too. -/
theorem InWindow.next (h : InWindow d (n + 1) s) (he : WantingTick d.other s e) :
    ∃ t, perform e s = .next t ∧
      ((¬ WantingTick d s e ∧ t.lbf.st = d.turnaround) ∨ InWindow d n t) := by
  obtain ⟨i, sys, rfl, hi, hother⟩ := he
  obtain ⟨t, ht, hready, hcfg, hlbf⟩ := h.ready.perform_tick (some i) sys
  refine ⟨t, ht, ?_⟩
  have hst := lbfAfterTick_st (d := d) hi h.st
  cases hown : d.wants s i with
  | false =>
    left
    constructor
    · rintro ⟨j, sys', hj, -, hwants⟩
      obtain ⟨rfl, -⟩ : i = j ∧ sys = sys' := by simpa using hj
      simp [hown] at hwants
    · rw [hlbf, hst]
      simp [hother, hown]
  | true =>
    right
    refine ⟨hready, ?_, hcfg ▸ h.budget, ?_⟩
    · rw [hlbf, hst]
      simp [hown, h.time]
    · rw [hlbf, lbfAfterTick_time hi h.st h.budget, h.time]
      rfl

end

theorem performAll_cons {e : Event} {es : List Event} {s t : State} (h : perform e s = .next t) :
    performAll (e :: es) s = performAll es t := by
  simp only [performAll, h]

/-- A contested window ends within the ticks of its budget that are left. -/
theorem InWindow.ends_within {d : Direction} {n : Nat} {es : List Event} {s : State}
    (h : InWindow d n s) (hlen : es.length = n + 1) (hes : along (WantingTick d.other) es s) :
    ∃ k t, k ≤ n + 1 ∧ performAll (es.take k) s = .next t ∧ t.lbf.st = d.turnaround := by
  induction n generalizing es s with
  | zero =>
    obtain ⟨e, rfl⟩ := List.length_eq_one_iff.1 hlen
    obtain ⟨t, ht, hst⟩ := h.ends hes.1
    exact ⟨1, t, le_rfl, performAll_cons ht, hst⟩
  | succ n ih =>
    obtain ⟨e, es, rfl⟩ := List.exists_cons_of_length_eq_add_one hlen
    obtain ⟨hfirst, hrest⟩ := hes
    obtain ⟨u, hu, ⟨-, hst⟩ | hin⟩ := h.next hfirst
    · exact ⟨1, u, by omega, performAll_cons hu, hst⟩
    · obtain ⟨k, t, hk, ht, hst⟩ := ih hin (Nat.succ.inj hlen) (hrest u hu)
      exact ⟨k + 1, t, by omega, (performAll_cons hu).trans ht, hst⟩

/-- Where both directions want the bus throughout, the window lasts exactly its budget. -/
theorem InWindow.lasts {d : Direction} {n : Nat} {es : List Event} {s : State}
    (h : InWindow d n s) (hlen : es.length = n + 1) (hes : along (WantingTick d.other) es s)
    (hown : along (WantingTick d) es s) :
    (∀ k, k < n + 1 → ∃ t, performAll (es.take k) s = .next t ∧ t.lbf.st = d.window) ∧
      ∃ t, performAll es s = .next t ∧ t.lbf.st = d.turnaround := by
  induction n generalizing es s with
  | zero =>
    obtain ⟨e, rfl⟩ := List.length_eq_one_iff.1 hlen
    obtain ⟨t, ht, hst⟩ := h.ends hes.1
    refine ⟨fun k hk => ?_, t, performAll_cons ht, hst⟩
    obtain rfl : k = 0 := by omega
    exact ⟨s, rfl, h.st⟩
  | succ n ih =>
    obtain ⟨e, es, rfl⟩ := List.exists_cons_of_length_eq_add_one hlen
    obtain ⟨u, hu, ⟨hnot, -⟩ | hin⟩ := h.next hes.1
    · exact absurd hown.1 hnot
    · obtain ⟨hstay, t, ht, hst⟩ := ih hin (Nat.succ.inj hlen) (hes.2 u hu) (hown.2 u hu)
      refine ⟨fun k hk => ?_, t, (performAll_cons hu).trans ht, hst⟩
      cases k with
      | zero => exact ⟨s, rfl, h.st⟩
      | succ k =>
        obtain ⟨t', ht', hst'⟩ := hstay k (Nat.lt_of_succ_lt_succ hk)
        exact ⟨t', (performAll_cons hu).trans ht', hst'⟩

/-- The statement on one direction, from a window whose whole budget is left. -/
theorem window_bounded (d : Direction) {s : State} {es : List Event} (hinv : Inv s) (h : AtRest s)
    (hst : s.lbf.st = d.window) (hbudget : 1 ≤ d.budget s.cfg)
    (htime : d.time s.lbf = d.budget s.cfg - 1) (hlen : es.length = d.budget s.cfg)
    (hes : along (WantingTick d.other) es s) :
    (∃ k t, k ≤ d.budget s.cfg ∧ performAll (es.take k) s = .next t ∧
      t.lbf.st = d.turnaround) ∧
    (along (WantingTick d) es s →
      (∀ k, k < d.budget s.cfg → ∃ t, performAll (es.take k) s = .next t ∧
        t.lbf.st = d.window) ∧
      ∃ t, performAll es s = .next t ∧ t.lbf.st = d.turnaround) := by
  have hin : InWindow d (d.budget s.cfg - 1) s := ⟨Ready.ofInv hinv h, hst, hbudget, htime⟩
  have hsucc : d.budget s.cfg - 1 + 1 = d.budget s.cfg := Nat.sub_add_cancel hbudget
  rw [← hsucc] at hlen ⊢
  exact ⟨hin.ends_within hlen hes, hin.lasts hlen hes⟩

/-- Settles O52: by induction on the budget that is left, once for both directions. -/
theorem windowsAreBounded : Obligations.WindowsAreBounded :=
  ⟨fun _ _ => window_bounded .receive, fun _ _ => window_bounded .transmit⟩

end Sys2Proof.LinkBusLaws
end

section
/-! The statements on the operations and on the outputs of the Packetizer. -/

namespace Sys2Proof.PacketizerLaws

open Sys2Proof.Machine Sys2Proof.WireLaws

/-! ### The output rule by state (R173) -/

section
variable {s : State} {i : Fin 3} (w : SysWires)

theorem pktOutputs_of_idle (hpkt : s.pkt = ⟨.idle, i⟩) :
    let v := pktAccept s (pktOffer s w)
    v.pktSource.valid = false ∧ v.mTx.ready = false := by
  simp [pktAccept, pktOffer, offer, accept, hpkt]

/-- The header word is read from the word on `pkt.sink`, which is not taken (R171). -/
theorem pktOutputs_of_insertHeader (hpkt : s.pkt = ⟨.insertHeader, i⟩) :
    let v := pktAccept s (pktOffer s w)
    v.pktSource.valid = true ∧
      v.pktSource.pay = ⟨headerWord i w.mTx.pay.dst w.mTx.pay.length, false⟩ ∧
      v.mTx.ready = false := by
  simp [pktAccept, pktOffer, offer, accept, hpkt]

/-- In `COPY` the Packetizer is a wire. -/
theorem pktOutputs_of_copy (hpkt : s.pkt = ⟨.copy, i⟩) :
    let v := pktAccept s (pktOffer s w)
    v.pktSource.valid = w.mTx.valid ∧ v.pktSource.pay = ⟨w.mTx.pay.data, w.mTx.pay.last⟩ ∧
      v.mTx.ready = w.pktSource.ready := by
  simp [pktAccept, pktOffer, offer, accept, hpkt]

end

theorem pkt_eq_of_st {s : State} {st : PktSt} (hst : s.pkt.st = st) :
    s.pkt = ⟨st, s.pkt.hidx⟩ := by
  rw [← hst]

/-- The header words by the value of the index (R171). -/
theorem headerWord_eq (i : Fin 3) (dst : Tag) (length : Word) :
    headerWord i dst length =
      if i = 0 then 0x5AA55AA5 else if i = 1 then dst.zeroExtend 32 else length := by
  have hi : i = 0 ∨ i = 1 ∨ i = 2 := by omega
  rcases hi with rfl | rfl | rfl <;> rfl

/-! ### The rows of the operation map -/

section
variable {s : State}

theorem selects_idle (hpkt : s.pkt = ⟨.idle, 0⟩) :
    selects s .pkt = .ok (if s.sy.mTx.valid then
        .pktStart false false s.sy.mTx.pay.last s.sy.pktSource.ready
      else .pktIdleWait false false s.sy.mTx.pay.last s.sy.pktSource.ready) := by
  rw [selects_pkt s (by simp [hpkt]), hpkt]

theorem selects_header_stalled (hst : s.pkt.st = .insertHeader)
    (hready : s.sy.pktSource.ready = false) :
    selects s .pkt = .ok (.pktHdrStall (s.pkt.hidx == 2) (s.pkt.hidx == 1) s.sy.mTx.valid
      s.sy.mTx.pay.last) := by
  rw [selects_pkt s (fun h => absurd hst h)]
  simp only [hst, hready, Bool.false_eq_true, if_false]

theorem selects_header {i : Fin 3} (hpkt : s.pkt = ⟨.insertHeader, i⟩)
    (hready : s.sy.pktSource.ready = true) :
    selects s .pkt = .ok (if i = 0 then .pktHdrW0 s.sy.mTx.valid s.sy.mTx.pay.last
      else if i = 1 then .pktHdrW1 s.sy.mTx.valid s.sy.mTx.pay.last
      else .pktHdrW2 s.sy.mTx.valid s.sy.mTx.pay.last) := by
  rw [selects_pkt s (by simp [hpkt]), hpkt]
  simp only [hready, if_true]

theorem selects_copy_of_no_word (hpkt : s.pkt = ⟨.copy, 0⟩) (hvalid : s.sy.mTx.valid = false) :
    selects s .pkt =
      .ok (.pktCopyIdle false false s.sy.mTx.pay.last s.sy.pktSource.ready) := by
  rw [selects_pkt s (by simp [hpkt]), hpkt]
  simp only [hvalid, Bool.false_eq_true, if_false]

theorem selects_copy (hpkt : s.pkt = ⟨.copy, 0⟩) (hvalid : s.sy.mTx.valid = true) :
    selects s .pkt = .ok (if s.sy.pktSource.ready then
        if s.sy.mTx.pay.last then .pktCopyLast false false else .pktCopyXfer false false
      else .pktCopyStall false false s.sy.mTx.pay.last) := by
  rw [selects_pkt s (by simp [hpkt]), hpkt]
  simp only [hvalid, if_true]

end

/-- An operation that drives the outputs and writes `p` answers the state with both written out. -/
theorem next_setPkt (s : State) {p q : Pkt} (h : p = q) :
    (Host.Outcome.next ((drivePkt s).setPkt p) : Out) =
      .next { s with sy := pktAccept s (pktOffer s s.sy), pkt := q } := by
  rw [h]
  rfl

/-- Settles O14: the state, the index and the wires select the row by `selects_pkt`; every row
drives the outputs of R173 and writes `pkt`, a stall what stood there. -/
theorem packetizerOperations : Obligations.PacketizerOperations := by
  intro s
  refine ⟨fun hpkt hv => ?idleWait, fun hpkt hv => ?start, fun hst hr => ?hdrStall,
    fun hpkt hr => ?hdrW0, fun hpkt hr => ?hdrW1, fun hpkt hr => ?hdrW2,
    fun hpkt hv => ?copyIdle, fun hpkt hv hr => ?copyStall, fun hpkt hv hl hr => ?copyXfer,
    fun hpkt hv hl hr => ?copyLast⟩
  case idleWait =>
    obtain ⟨hvalid, hready⟩ := pktOutputs_of_idle s.sy hpkt
    exact ⟨by rw [selects_idle hpkt, hv]; rfl, hvalid, hready,
      fun _ _ _ _ => next_setPkt s (by rw [hpkt])⟩
  case start =>
    obtain ⟨hvalid, hready⟩ := pktOutputs_of_idle s.sy hpkt
    exact ⟨by rw [selects_idle hpkt, hv]; rfl, hvalid, hready,
      fun _ _ _ _ => next_setPkt s rfl⟩
  case hdrStall =>
    have hheader := pktOutputs_of_insertHeader s.sy (pkt_eq_of_st hst)
    rw [headerWord_eq] at hheader
    exact ⟨⟨_, _, selects_header_stalled hst hr⟩, hheader, fun _ _ _ _ => rfl⟩
  case hdrW0 | hdrW1 =>
    exact ⟨selects_header hpkt hr, pktOutputs_of_insertHeader s.sy hpkt,
      fun _ _ => next_setPkt s (by rw [hpkt])⟩
  case hdrW2 =>
    exact ⟨selects_header hpkt hr, pktOutputs_of_insertHeader s.sy hpkt,
      fun _ _ => next_setPkt s rfl⟩
  case copyIdle =>
    obtain ⟨hvalid, -⟩ := pktOutputs_of_copy s.sy hpkt
    exact ⟨selects_copy_of_no_word hpkt hv, hvalid.trans hv, fun _ _ _ _ => rfl⟩
  case copyStall =>
    obtain ⟨hvalid, hpay, hready⟩ := pktOutputs_of_copy s.sy hpkt
    exact ⟨by rw [selects_copy hpkt hv, hr]; rfl, hvalid.trans hv, hpay, hready.trans hr,
      fun _ _ _ => rfl⟩
  case copyXfer | copyLast =>
    obtain ⟨hvalid, hpay, hready⟩ := pktOutputs_of_copy s.sy hpkt
    exact ⟨by rw [selects_copy hpkt hv, hr, hl]; rfl, hvalid.trans hv, hl ▸ hpay,
      hready.trans hr, fun _ _ => next_setPkt s (by rw [hpkt])⟩

/-- Settles O38: driving the Packetizer's outputs again leaves the settled wires as they are, so the
output rule of its state holds of them. -/
theorem packetizerOutputs : Obligations.PacketizerOutputs := by
  intro s y hrst
  obtain ⟨hsettle, -⟩ := settledWiresAreAFixedPoint
  have hsettled := hsettle s y hrst
  have ⟨_, _, _, _, _, hpkt⟩ := hsettled
  refine ⟨fun hst => ?idle, fun hst => ?insertHeader, fun hst => ?copy⟩
  case idle => exact (pkt_off_of_idle hsettled hst).symm
  case insertHeader =>
    obtain ⟨hvalid, hpay, hready⟩ :=
      hpkt ▸ pktOutputs_of_insertHeader (settleSys s y) (pkt_eq_of_st hst)
    rw [headerWord_eq] at hpay
    exact ⟨hready, hvalid, congrArg LastWord.last hpay, congrArg LastWord.data hpay⟩
  case copy =>
    obtain ⟨hvalid, hpay, hready⟩ := hpkt ▸ pktOutputs_of_copy (settleSys s y) (pkt_eq_of_st hst)
    refine ⟨hready, hvalid, hpay, ?_⟩
    rw [transfers, transfers, hready, hvalid]

end Sys2Proof.PacketizerLaws
end

section
/-! SUPPORT. The Depacketizer alone: its operation as the pure next-state function of Safety.lean,
one tick of `depacketize` in each state, and the run over a frame that the timeout allows. -/

namespace Sys2Proof.DepacketizerLaws

open Sys2Proof.Machine Sys2Proof.EventLaws

/-! ### One operation of the Depacketizer -/

section
variable {s : State}

theorem nextTimer_eq (hxfer : s.sy.dpkSink.xfer = transfers s.sy.dpkSink) :
    nextTimer s = timerAfter s.cfg s.dpk (transfers s.sy.dpkSink) := by
  rw [nextTimer, timerAfter, hxfer]

theorem dpkLastWord_iff :
    dpkLastWord s = true ↔ s.dpk.cnt = (if s.dpk.lenR = 0 then 1 else s.dpk.lenR) - 1 := by
  simp [dpkLastWord, effLen]

theorem timerDone_iff_of_busy (hst : s.dpk.st ≠ .idle) :
    timerDone s = true ↔ s.dpk.timer = 0 := by
  simp [timerDone, hst]

end

/-- An operation that ticks the Depacketizer and leaves `d` in `dpk` only drives wires besides. -/
theorem next_setDpk (s : State) {d e : Dpk} (h : d = e) :
    (Host.Outcome.next ((dpkTick s).setDpk d) : Out) = .next ((driveDpk s).setDpk e) := by
  rw [h]
  rfl

section
variable {s : State}

/-- A spent timer aborts, whatever is offered (R203, R208). -/
theorem runSite_dpk_of_timerDone (hxfer : s.sy.dpkSink.xfer = transfers s.sy.dpkSink)
    (hdone : timerDone s = true) :
    runSite .dpk s = .next ((driveDpk s).setDpk (nextDpk s.cfg s.dpk s.sy)) := by
  have hraise : raiseCause .timeoutAbort (dpkTick s) =
      .next ((driveDpk s).setDpk (nextDpk s.cfg s.dpk s.sy)) := by
    have hbusy : s.dpk.st ≠ .idle := fun hst => by simp [timerDone, hst] at hdone
    have htimer : s.dpk.timer = 0 := (timerDone_iff_of_busy hbusy).1 hdone
    refine (raiseCause_timeoutAbort_dpkTick hdone).trans (next_setDpk s ?_)
    cases hst : s.dpk.st with
    | idle => exact absurd hst hbusy
    | receiveHeader | copy => simp [nextDpk, nextCnt, nextTimer_eq hxfer, hst, htimer]
  rw [PacketizerLaws.runSite_of_selects (selects_dpk s)]
  simp only [hdone, if_true]
  cases hst : s.dpk.st with
  | idle => simp [timerDone, hst] at hdone
  | receiveHeader | copy => exact hraise

/-- Whichever operation the Depacketizer selects, it writes the next registers of R193, R196 and
R197 to R208, if the flag and the match on its wires are those of the tick. -/
theorem runSite_dpk (hxfer : s.sy.dpkSink.xfer = transfers s.sy.dpkSink)
    (hpm : s.sy.pm = (s.sy.dpkSink.pay == preamble)) :
    runSite .dpk s = .next ((driveDpk s).setDpk (nextDpk s.cfg s.dpk s.sy)) := by
  cases hdone : timerDone s with
  | true => exact runSite_dpk_of_timerDone hxfer hdone
  | false =>
    rw [PacketizerLaws.runSite_of_selects (selects_dpk s), hdone]
    have htime := nextTimer_eq hxfer
    have htimer (hbusy : s.dpk.st ≠ .idle) : s.dpk.timer ≠ 0 := by
      simpa [hdone] using timerDone_iff_of_busy hbusy
    cases hst : s.dpk.st with
    | idle =>
      cases hv : s.sy.dpkSink.valid
      · exact next_setDpk s (by simp [nextDpk, nextCnt, htime, hst, hv])
      · rw [hpm]
        cases hp : s.sy.dpkSink.pay == preamble <;>
          exact next_setDpk s (by simp [nextDpk, nextCnt, htime, hst, hv, hp])
    | receiveHeader =>
      have htimer := htimer (by simp [hst])
      cases hv : s.sy.dpkSink.valid
      · exact next_setDpk s (by simp [nextDpk, nextCnt, htime, hst, htimer, hv])
      · cases hh : s.dpk.hcnt
        · exact next_setDpk s (by simp [nextDpk, nextCnt, htime, hst, htimer, hv, hh, tagField])
        · exact next_setDpk s (by simp [nextDpk, nextCnt, htime, hst, htimer, hv, hh])
    | copy =>
      have htimer := htimer (by simp [hst])
      cases hv : s.sy.dpkSink.valid
      · exact next_setDpk s (by simp [nextDpk, nextCnt, htime, hst, htimer, hv])
      · cases hr : s.sy.dpkSource.ready
        · exact next_setDpk s (by simp [nextDpk, nextCnt, htime, hst, htimer, hv, hr])
        · have hlast := dpkLastWord_iff (s := s)
          cases hl : dpkLastWord s
          · have hcnt := mt hlast.2 (by simp [hl])
            exact next_setDpk s (by simpa [nextDpk, htime, hst, htimer, hv, hr] using hcnt)
          · have hcnt := hlast.1 hl
            exact next_setDpk s
              (by simpa [nextDpk, nextCnt, htime, hst, htimer, hv, hr] using hcnt)

end

/-! ### One tick of `depacketize` -/

/-- The word that stands on `dpk.sink`, and `dpk.source` ready for one. -/
def offerDpk (w : Word) (s : State) : State :=
  s.setSy { s.sy with
    dpkSink := ⟨true, false, false, w⟩, pm := w == preamble, dpkSource := feedChan true [] }

@[simp] theorem offerDpk_dpk (w : Word) (s : State) : (offerDpk w s).dpk = s.dpk := rfl
@[simp] theorem offerDpk_dpkSink (w : Word) (s : State) :
    (offerDpk w s).sy.dpkSink = ⟨true, false, false, w⟩ := rfl
@[simp] theorem offerDpk_dpkSource (w : Word) (s : State) :
    (offerDpk w s).sy.dpkSource = feedChan true [] := rfl
@[simp] theorem timerDone_offerDpk (w : Word) (s : State) :
    timerDone (offerDpk w s) = timerDone s := rfl

/-- The state in which the Depacketizer's operation executes in a tick of `depacketize` that offers
the word: the outputs and the flag of `dpk.sink` are driven. -/
def fedDpk (w : Word) (s : State) : State :=
  let u := driveDpk (offerDpk w s)
  u.setXfer .dpkSink (transfers u.sy.dpkSink)

@[simp] theorem fedDpk_cfg (w : Word) (s : State) : (fedDpk w s).cfg = s.cfg := rfl
@[simp] theorem fedDpk_dpk (w : Word) (s : State) : (fedDpk w s).dpk = s.dpk := rfl

section
variable {s : State}

theorem dpkForwards_offerDpk (hdone : timerDone s = false) (w : Word) :
    dpkForwards (offerDpk w s) = (s.dpk.st == .copy) := by
  simp [dpkForwards, hdone]

/-- Before its timeout the Depacketizer takes the word that is offered (R195). -/
theorem fedDpk_dpkSink (hdone : timerDone s = false) (w : Word) :
    (fedDpk w s).sy.dpkSink = ⟨true, true, true, w⟩ := by
  have hready : (driveDpk (offerDpk w s)).sy.dpkSink = ⟨true, true, false, w⟩ := by
    cases hst : s.dpk.st <;>
      simp [dpkAccept, dpkOffer, accept, offer, feedChan, dpkForwards_offerDpk hdone, hdone, hst]
  simp only [fedDpk, State.setXfer, hready]
  rfl

/-- In `COPY` it delivers the word with the tag, the length and `last` of the frame (R195). -/
theorem fedDpk_dpkSource (hdone : timerDone s = false) (w : Word) :
    (fedDpk w s).sy.dpkSource =
      if s.dpk.st = .copy then ⟨true, true, false, ⟨w, dpkLastWord s, s.dpk.dstR, effLen s⟩⟩
      else ⟨false, true, false, Config.idleUp .dpkSource s.now⟩ := by
  change (if dpkForwards (offerDpk w s) then _ else _) = _
  rw [dpkForwards_offerDpk hdone]
  cases s.dpk.st <;> rfl

theorem depacketize_of_run {t : State} {w : Word} (hrun : runSite .dpk (fedDpk w s) = .next t)
    (n : Nat) (ws : List Word) :
    depacketize (n + 1) (w :: ws) s =
      let v := (fedDpk w s).sy
      let r := depacketize n (if transfers v.dpkSink then ws else w :: ws) t
      ((if transfers v.dpkSource then [v.dpkSource.pay] else []) ++ r.1, r.2) := by
  rw [depacketize]
  change (match runSite .dpk (fedDpk w s) with
    | .next t' => _
    | _ => _) = _
  rw [hrun]
  rfl

/-- A tick of `depacketize` before the timeout takes the first word; in `COPY` it delivers it. -/
theorem depacketize_succ (hdone : timerDone s = false) (n : Nat) (w : Word) (ws : List Word) :
    ∃ t, t.cfg = s.cfg ∧ t.dpk = nextDpk s.cfg s.dpk (fedDpk w s).sy ∧
      depacketize (n + 1) (w :: ws) s =
        ((if s.dpk.st = .copy then [⟨w, dpkLastWord s, s.dpk.dstR, effLen s⟩] else []) ++
          (depacketize n ws t).1, (depacketize n ws t).2) := by
  have hsink := fedDpk_dpkSink hdone w
  have hsource := fedDpk_dpkSource hdone w
  have hrun := runSite_dpk (s := fedDpk w s) (by rw [hsink]; rfl) (by rw [hsink]; rfl)
  rw [fedDpk_cfg, fedDpk_dpk] at hrun
  have htick := depacketize_of_run hrun n ws
  simp only [hsink, hsource] at htick
  refine ⟨(driveDpk (fedDpk w s)).setDpk (nextDpk s.cfg s.dpk (fedDpk w s).sy), by simp, by simp,
    ?_⟩
  rw [htick]
  cases s.dpk.st <;> rfl

end

/-! ### The time that is left (R193, R211) -/

/-- The timer, which stands at `timer`, lets the Depacketizer take a word in each of the next `n`
ticks: one that every word restarts has to last until the next word (word mode), one that none does
has to last `n` ticks (frame mode). -/
def TimeFor (c : Cfg) (timer n : Nat) : Prop :=
  if c.depackTimerRestartOnWord then 2 ≤ c.depackTimeout ∧ timer ≠ 0 else n ≤ timer

section
variable {c : Cfg} {timer n : Nat}

theorem TimeFor.timer_ne_zero (h : TimeFor c timer (n + 1)) : timer ≠ 0 := by
  unfold TimeFor at h
  split at h
  · exact h.2
  · omega

/-- A tick that takes a word leaves time for the others. -/
theorem TimeFor.next {d : Dpk} (h : TimeFor c d.timer (n + 1)) (hst : d.st ≠ .idle) :
    TimeFor c (timerAfter c d true) n := by
  unfold TimeFor at *
  cases hmode : c.depackTimerRestartOnWord <;>
    simp only [hmode, timerAfter, hst, Bool.false_eq_true, if_true, if_false, Bool.and_self,
      Bool.and_true] at * <;> omega

/-- The bounds of R211, in frame mode and in word mode, for a frame whose preamble has just been
taken. -/
theorem TimeFor.ofBound
    (h : n + 3 ≤ c.depackTimeout ∨ (c.depackTimerRestartOnWord = true ∧ 2 ≤ c.depackTimeout)) :
    TimeFor c (c.depackTimeout - 1) (n + 2) := by
  unfold TimeFor
  split
  · omega
  · rcases h with h | ⟨hmode, -⟩
    · omega
    · contradiction

end

/-! ### The words of a frame, one tick each -/

theorem timerDone_eq_false {s : State} (h : s.dpk.timer ≠ 0) : timerDone s = false := by
  simp [timerDone, h]

section
variable {s : State} (n : Nat) (ws : List Word)

/-- `IDLE` takes the preamble, loads the timer and clears the word count (R193, R196, R199). -/
theorem depacketize_preamble (hst : s.dpk.st = .idle) :
    ∃ t, t.cfg = s.cfg ∧
      t.dpk = { s.dpk with
        st := .receiveHeader, hcnt := false, cnt := 0, timer := s.cfg.depackTimeout - 1 } ∧
      depacketize (n + 1) (preamble :: ws) s = depacketize n ws t := by
  have hdone : timerDone s = false := by simp [timerDone, hst]
  obtain ⟨t, hcfg, ht, hrun⟩ := depacketize_succ hdone n preamble ws
  refine ⟨t, hcfg, ?_, by simpa [hst] using hrun⟩
  simp [ht, nextDpk, timerAfter, fedDpk_dpkSink hdone, hst]

/-- `RECEIVE_HEADER` takes the tag word (R201). -/
theorem depacketize_dst (w : Word) (hst : s.dpk.st = .receiveHeader) (hhcnt : s.dpk.hcnt = false)
    (htimer : s.dpk.timer ≠ 0) :
    ∃ t, t.cfg = s.cfg ∧
      t.dpk = { s.dpk with
        dstR := tagField w, hcnt := true, timer := timerAfter s.cfg s.dpk true } ∧
      depacketize (n + 1) (w :: ws) s = depacketize n ws t := by
  have hdone := timerDone_eq_false htimer
  obtain ⟨t, hcfg, ht, hrun⟩ := depacketize_succ hdone n w ws
  refine ⟨t, hcfg, ?_, by simpa [hst] using hrun⟩
  simp [ht, nextDpk, transfers, tagField, fedDpk_dpkSink hdone, hst, hhcnt, htimer]

/-- `RECEIVE_HEADER` takes the length word (R202). -/
theorem depacketize_length (w : Word) (hst : s.dpk.st = .receiveHeader) (hhcnt : s.dpk.hcnt = true)
    (htimer : s.dpk.timer ≠ 0) :
    ∃ t, t.cfg = s.cfg ∧
      t.dpk = { s.dpk with
        lenR := w, hcnt := false, st := .copy, timer := timerAfter s.cfg s.dpk true } ∧
      depacketize (n + 1) (w :: ws) s = depacketize n ws t := by
  have hdone := timerDone_eq_false htimer
  obtain ⟨t, hcfg, ht, hrun⟩ := depacketize_succ hdone n w ws
  refine ⟨t, hcfg, ?_, by simpa [hst] using hrun⟩
  simp [ht, nextDpk, transfers, fedDpk_dpkSink hdone, hst, hhcnt, htimer]

/-- `COPY` takes a payload word and delivers it; the last one ends the frame (R206, R207). -/
theorem depacketize_copy (w : Word) (hst : s.dpk.st = .copy) (htimer : s.dpk.timer ≠ 0) :
    ∃ t, t.cfg = s.cfg ∧
      t.dpk = (let d := { s.dpk with timer := timerAfter s.cfg s.dpk true }
        if dpkLastWord s then { d with st := .idle } else { d with cnt := s.dpk.cnt + 1 }) ∧
      depacketize (n + 1) (w :: ws) s =
        (⟨w, dpkLastWord s, s.dpk.dstR, effLen s⟩ :: (depacketize n ws t).1,
          (depacketize n ws t).2) := by
  have hdone := timerDone_eq_false htimer
  obtain ⟨t, hcfg, ht, hrun⟩ := depacketize_succ hdone n w ws
  refine ⟨t, hcfg, ?_, by simpa [hst] using hrun⟩
  simp [ht, nextDpk, transfers, fedDpk_dpkSink hdone, fedDpk_dpkSource hdone, dpkLastWord_iff, hst,
    htimer]

end

/-! ### The run over a frame -/

/-- The Depacketizer copies a packet of which `n` words are still to come, and has time for them. -/
structure Copying (dst : Tag) (length : Word) (n : Nat) (s : State) : Prop where
  st     : s.dpk.st = .copy
  dstR   : s.dpk.dstR = dst
  efflen : effLen s = length
  cnt    : s.dpk.cnt + BitVec.ofNat 32 n = length
  time   : TimeFor s.cfg s.dpk.timer n

section
variable {s : State} {dst : Tag} {length : Word} {n : Nat}

/-- The word count marks the word that comes alone, and no other (R194). -/
theorem Copying.lastWord (h : Copying dst length (n + 1) s) (hn : n + 1 < 2 ^ 32) :
    dpkLastWord s = decide (n = 0) := by
  have hcnt : s.dpk.cnt = s.dpk.cnt + BitVec.ofNat 32 (n + 1) - 1 ↔ n = 0 := by
    constructor <;> intro h <;> bv_omega
  rw [dpkLastWord, h.efflen, ← h.cnt, beq_eq_decide, decide_eq_decide]
  exact hcnt

theorem Copying.next {t : State} (h : Copying dst length (n + 2) s) (hcfg : t.cfg = s.cfg)
    (ht : t.dpk = { s.dpk with
      timer := timerAfter s.cfg s.dpk true, cnt := s.dpk.cnt + 1 }) :
    Copying dst length (n + 1) t := by
  refine ⟨by simp [ht, h.st], by simp [ht, h.dstR], ?_, ?_, ?_⟩
  · simpa [effLen, ht] using h.efflen
  · rw [← h.cnt, ht]
    bv_omega
  · rw [hcfg, ht]
    exact h.time.next (by simp [h.st])

/-- `COPY` delivers the payload in as many ticks and ends in `IDLE`. -/
theorem depacketize_payload {ws : List Word} (hne : ws ≠ []) (hlength : ws.length < 2 ^ 32)
    (h : Copying dst length ws.length s) :
    ∃ t, t.dpk.st = .idle ∧
      depacketize ws.length ws s = (upWords dst length ws, t) := by
  induction ws generalizing s with
  | nil => exact absurd rfl hne
  | cons w ws ih =>
    obtain ⟨t, hcfg, ht, hrun⟩ := depacketize_copy ws.length ws w h.st h.time.timer_ne_zero
    rw [h.lastWord hlength, h.dstR, h.efflen] at hrun
    rw [h.lastWord hlength] at ht
    cases ws with
    | nil => exact ⟨t, by simp [ht], hrun⟩
    | cons w' ws =>
      obtain ⟨t', ht', hrun'⟩ := ih (List.cons_ne_nil _ _) (Nat.lt_of_succ_lt hlength)
        (h.next hcfg ht)
      rw [hrun'] at hrun
      exact ⟨t', ht', hrun⟩

/-- A tag is read back from its word (R92). -/
theorem tagField_zeroExtend (dst : Tag) : tagField (dst.zeroExtend 32) = dst := by
  refine BitVec.eq_of_toNat_eq ?_
  simpa [tagField] using dst.isLt

/-- The length word of a well-formed packet is not the 0 that R194 reads as 1. -/
theorem length_ne_zero {p : LinkPacket} (hwf : p.wf) : p.length ≠ 0 := by
  obtain ⟨hne, hlength⟩ := hwf
  have hpos : p.payload.length ≠ 0 := mt List.length_eq_zero_iff.1 hne
  rw [LinkPacket.length]
  bv_omega

/-- From `IDLE` the frame of a packet is delivered as the packet, within the bounds of R211. -/
theorem depacketize_frame {p : LinkPacket} (hwf : p.wf) (hst : s.dpk.st = .idle)
    (hbound : p.payload.length + 3 ≤ s.cfg.depackTimeout ∨
      (s.cfg.depackTimerRestartOnWord = true ∧ 2 ≤ s.cfg.depackTimeout)) :
    ∃ t, t.dpk.st = .idle ∧
      depacketize (3 + p.payload.length) p.frame s = (p.words, t) := by
  have ⟨hne, hlength⟩ := hwf
  obtain ⟨t0, hcfg0, ht0, hrun0⟩ := depacketize_preamble (p.payload.length + 2)
    (p.dst.zeroExtend 32 :: p.length :: p.payload) hst
  have htime0 : TimeFor t0.cfg t0.dpk.timer (p.payload.length + 2) := by
    rw [hcfg0, ht0]
    exact .ofBound hbound
  obtain ⟨t1, hcfg1, ht1, hrun1⟩ := depacketize_dst (s := t0) (p.payload.length + 1)
    (p.length :: p.payload) (p.dst.zeroExtend 32) (by rw [ht0]) (by rw [ht0]) htime0.timer_ne_zero
  have htime1 : TimeFor t1.cfg t1.dpk.timer (p.payload.length + 1) := by
    rw [hcfg1, ht1]
    exact htime0.next (by simp [ht0])
  obtain ⟨t2, hcfg2, ht2, hrun2⟩ := depacketize_length (s := t1) p.payload.length
    p.payload p.length (by simp [ht1, ht0]) (by rw [ht1]) htime1.timer_ne_zero
  have hcopy : Copying p.dst p.length p.payload.length t2 := by
    refine ⟨by rw [ht2], ?_, ?_, ?_, ?_⟩
    · simp [ht2, ht1, tagField_zeroExtend]
    · rw [effLen, ht2, if_neg (length_ne_zero hwf)]
    · simp [ht2, ht1, ht0, LinkPacket.length]
    · rw [hcfg2, ht2]
      exact htime1.next (by simp [ht1, ht0])
  obtain ⟨t, ht, hrun⟩ := depacketize_payload hne hlength hcopy
  refine ⟨t, ht, ?_⟩
  rw [Nat.add_comm]
  exact hrun0.trans (hrun1.trans (hrun2.trans hrun))

end

end Sys2Proof.DepacketizerLaws
end

section
/-! The statement on the round trip of a packet through Packetizer and Depacketizer. -/

namespace Sys2Proof.PacketizerLaws

open Sys2Proof.Machine

/-- Settles O57: the Packetizer emits the frame of the packet (R184), of which the Depacketizer
delivers the packet. -/
theorem roundTrip : Obligations.RoundTrip := by
  intro s t p hwf hpkt hst hbound
  obtain ⟨hframe, -, -⟩ := packetizerEmitsFrame s p hpkt hwf.1
  obtain ⟨u, -, hrun⟩ := DepacketizerLaws.depacketize_frame hwf hst (.inl hbound)
  rw [hframe, hrun]

end Sys2Proof.PacketizerLaws
end

section
/-! The statements on the operations of the Depacketizer. -/

namespace Sys2Proof.DepacketizerLaws

open Sys2Proof.Machine Sys2Proof.WireLaws

/-! ### The output rule by state (R195) -/

section
variable {s : State} (w : SysWires)

theorem dpkOutputs_of_idle (hst : s.dpk.st = .idle) :
    let v := dpkAccept s (dpkOffer s w)
    v.dpkSink.ready = true ∧ v.dpkSource.valid = false ∧ v.abortEvt = false := by
  simp [dpkAccept, dpkOffer, accept, offer, dpkForwards, timerDone, hst]

theorem dpkOutputs_of_receiveHeader (hst : s.dpk.st = .receiveHeader) :
    let v := dpkAccept s (dpkOffer s w)
    v.dpkSource.valid = false ∧ v.dpkSink.ready = !(s.dpk.timer == 0) ∧
      v.abortEvt = (s.dpk.timer == 0) := by
  simp [dpkAccept, dpkOffer, accept, offer, dpkForwards, timerDone, hst]

/-- In `COPY` without a timeout the Depacketizer is a wire for the data. -/
theorem dpkOutputs_of_copy (hst : s.dpk.st = .copy) (htimer : s.dpk.timer ≠ 0) :
    let v := dpkAccept s (dpkOffer s w)
    v.dpkSource.valid = w.dpkSink.valid ∧ v.dpkSink.ready = w.dpkSource.ready ∧
      v.abortEvt = false ∧
      v.dpkSource.pay = ⟨w.dpkSink.pay, dpkLastWord s, s.dpk.dstR, effLen s⟩ := by
  simp [dpkAccept, dpkOffer, accept, offer, dpkForwards, timerDone, dpkWord, hst, htimer]

/-- In the abort tick no word moves. -/
theorem dpkOutputs_of_copy_timeout (hst : s.dpk.st = .copy) (htimer : s.dpk.timer = 0) :
    let v := dpkAccept s (dpkOffer s w)
    v.dpkSource.valid = false ∧ v.dpkSink.ready = false := by
  simp [dpkAccept, dpkOffer, accept, offer, dpkForwards, timerDone, hst, htimer]

end

/-! ### The rows of the operation map, by state and timer -/

section
variable {s : State}

theorem timerDone_of_timer_eq_zero (hst : s.dpk.st ≠ .idle) (htimer : s.dpk.timer = 0) :
    timerDone s = true :=
  (timerDone_iff_of_busy hst).2 htimer

theorem selects_idle_of_no_word (hst : s.dpk.st = .idle) (hv : s.sy.dpkSink.valid = false) :
    selects s .dpk = .ok (.dpkIdleWait false s.dpk.hcnt s.sy.pm (dpkLastWord s)
      s.sy.dpkSource.ready) := by
  simp [selects_dpk, hst, hv]

theorem selects_idle (hst : s.dpk.st = .idle) (hv : s.sy.dpkSink.valid = true) :
    selects s .dpk = .ok (if s.sy.pm then
        .dpkIdleSync false s.dpk.hcnt (dpkLastWord s) s.sy.dpkSource.ready
      else .dpkIdleDrop false s.dpk.hcnt (dpkLastWord s) s.sy.dpkSource.ready) := by
  simp [selects_dpk, hst, hv]

theorem selects_header_of_no_word (hst : s.dpk.st = .receiveHeader) (htimer : s.dpk.timer ≠ 0)
    (hv : s.sy.dpkSink.valid = false) :
    selects s .dpk = .ok (.dpkHdrWait s.dpk.hcnt s.sy.pm (dpkLastWord s)
      s.sy.dpkSource.ready) := by
  simp [selects_dpk, hst, timerDone_eq_false htimer, hv]

theorem selects_header (hst : s.dpk.st = .receiveHeader) (htimer : s.dpk.timer ≠ 0)
    (hv : s.sy.dpkSink.valid = true) :
    selects s .dpk = .ok (if s.dpk.hcnt then
        .dpkHdrLen s.sy.pm (dpkLastWord s) s.sy.dpkSource.ready
      else .dpkHdrDst s.sy.pm (dpkLastWord s) s.sy.dpkSource.ready) := by
  simp [selects_dpk, hst, timerDone_eq_false htimer, hv]

theorem selects_header_timeout (hst : s.dpk.st = .receiveHeader) (htimer : s.dpk.timer = 0) :
    selects s .dpk = .ok (.dpkHdrAbort s.dpk.hcnt s.sy.dpkSink.valid s.sy.pm (dpkLastWord s)
      s.sy.dpkSource.ready) := by
  simp [selects_dpk, hst, timerDone_of_timer_eq_zero (s := s) (by simp [hst]) htimer]

theorem selects_copy_of_no_word (hst : s.dpk.st = .copy) (htimer : s.dpk.timer ≠ 0)
    (hv : s.sy.dpkSink.valid = false) :
    selects s .dpk = .ok (.dpkCopyWait s.dpk.hcnt s.sy.pm (dpkLastWord s)
      s.sy.dpkSource.ready) := by
  simp [selects_dpk, hst, timerDone_eq_false htimer, hv]

theorem selects_copy (hst : s.dpk.st = .copy) (htimer : s.dpk.timer ≠ 0)
    (hv : s.sy.dpkSink.valid = true) :
    selects s .dpk = .ok (if s.sy.dpkSource.ready then
        if dpkLastWord s then .dpkCopyLast s.dpk.hcnt s.sy.pm
        else .dpkCopyXfer s.dpk.hcnt s.sy.pm
      else .dpkCopyStall s.dpk.hcnt s.sy.pm (dpkLastWord s)) := by
  simp [selects_dpk, hst, timerDone_eq_false htimer, hv]

theorem selects_copy_timeout (hst : s.dpk.st = .copy) (htimer : s.dpk.timer = 0) :
    selects s .dpk = .ok (.dpkCopyAbort s.dpk.hcnt s.sy.dpkSink.valid s.sy.pm (dpkLastWord s)
      s.sy.dpkSource.ready) := by
  simp [selects_dpk, hst, timerDone_of_timer_eq_zero (s := s) (by simp [hst]) htimer]

end

/-! ### The next state of an operation, written out -/

section
variable {s : State}

/-- The registers of the Depacketizer after a tick in `IDLE`: the timer loaded and the word count
cleared (R193, R196). -/
theorem dpkTick_dpk_of_idle (hst : s.dpk.st = .idle) :
    (dpkTick s).dpk = { s.dpk with timer := s.cfg.depackTimeout - 1, cnt := 0 } := by
  simp [nextTimer, nextCnt, hst]

/-- The same after a tick in a frame: the timer runs and the word count stays (R193, R196). -/
theorem dpkTick_dpk_of_busy (hst : s.dpk.st ≠ .idle) :
    (dpkTick s).dpk = { s.dpk with
      timer := if s.cfg.depackTimerRestartOnWord && s.sy.dpkSink.xfer then s.cfg.depackTimeout - 1
        else s.dpk.timer - 1 } := by
  simp [nextTimer, nextCnt, hst]

/-- An operation that ticks the Depacketizer and writes `f` of the registers answers the state with
the outputs and the registers written out. -/
theorem next_dpkTick (f : Dpk → Dpk) {d : Dpk} (h : (dpkTick s).dpk = d) :
    (Host.Outcome.next ((dpkTick s).setDpk (f (dpkTick s).dpk)) : Out) =
      .next { s with sy := dpkAccept s (dpkOffer s s.sy), dpk := f d } := by
  rw [h]
  rfl

/-- The timeout abort on top of a tick of the Depacketizer (R203, R208, R332). -/
theorem raiseCause_timeoutAbort_eq {d : Dpk} (h : (dpkTick s).dpk = d) :
    raiseCause .timeoutAbort (dpkTick s) = .next { s with
      sy := { dpkAccept s (dpkOffer s s.sy) with abortEvt := true }
      dpk := { d with st := .idle, hcnt := false, abortCount := d.abortCount + 1 } } := by
  rw [← h]
  rfl

end

/-- Settles O15: the word on `dpk.sink` selects the row by `selects_dpk`, and the tick of every row
leaves the registers of `dpkTick_dpk_of_idle`. -/
theorem depacketizerIdleOperations : Obligations.DepacketizerIdleOperations := by
  intro s hst hpm
  have htick := dpkTick_dpk_of_idle hst
  have hidle : ({ s.dpk with timer := s.cfg.depackTimeout - 1, cnt := 0 } : Dpk) =
      { s.dpk with st := .idle, timer := s.cfg.depackTimeout - 1, cnt := 0 } := by rw [← hst]
  refine ⟨dpkOutputs_of_idle s.sy hst, fun hv => ?wait, fun hv hp => ?drop, fun hv hp => ?sync⟩
  case wait =>
    refine ⟨selects_idle_of_no_word hst hv, fun _ _ _ _ _ => ?_⟩
    exact (next_dpkTick (fun d => { d with st := .idle }) htick).trans (by rw [hidle])
  case drop =>
    refine ⟨?_, fun _ _ _ _ => ?_⟩
    · rw [selects_idle hst hv, hpm, beq_false_of_ne hp]
      rfl
    · exact (next_dpkTick (fun d => { d with st := .idle }) htick).trans (by rw [hidle])
  case sync =>
    refine ⟨?_, fun _ _ _ _ => next_dpkTick (fun d => { d with
      st := .receiveHeader, hcnt := false }) htick⟩
    rw [selects_idle hst hv, hpm, hp]
    rfl

/-- Settles O16: the timer, the word on `dpk.sink` and the header count select the row, and the tick
of every row leaves the registers of `dpkTick_dpk_of_busy`, on which an abort is raised. -/
theorem depacketizerHeaderOperations : Obligations.DepacketizerHeaderOperations := by
  intro s hst
  have htick := dpkTick_dpk_of_busy (s := s) (by simp [hst])
  refine ⟨dpkOutputs_of_receiveHeader s.sy hst, fun htimer hv => ?wait, fun htimer hv hh => ?dst,
    fun htimer hv hh => ?len, fun htimer => ?abort⟩
  case wait =>
    refine ⟨selects_header_of_no_word hst htimer hv, fun _ _ _ _ => ?_⟩
    exact (next_dpkTick (fun d => { d with st := .receiveHeader }) htick).trans (by rw [← hst])
  case dst =>
    refine ⟨by rw [selects_header hst htimer hv, hh]; rfl, fun _ _ _ => ?_⟩
    exact next_dpkTick (fun d => { d with dstR := tagField s.sy.dpkSink.pay, hcnt := true }) htick
  case len =>
    refine ⟨by rw [selects_header hst htimer hv, hh]; rfl, fun _ _ _ => ?_⟩
    exact next_dpkTick (fun d => { d with
      lenR := s.sy.dpkSink.pay, hcnt := false, st := .copy }) htick
  case abort =>
    exact ⟨selects_header_timeout hst htimer, fun _ _ _ _ _ => raiseCause_timeoutAbort_eq htick⟩

/-- Settles O17: the timer, the word on `dpk.sink` and the `ready` of `dpk.source` select the row; a
wait and a stall write nothing on top of the tick of `dpkTick_dpk_of_busy`. -/
theorem depacketizerCopyOperations : Obligations.DepacketizerCopyOperations := by
  intro s hst
  have htick := dpkTick_dpk_of_busy (s := s) (by simp [hst])
  refine ⟨fun htimer => dpkOutputs_of_copy s.sy hst htimer, fun htimer hv => ?wait,
    fun htimer hv hr => ?stall, fun htimer hv hl hr => ?xfer, fun htimer hv hl hr => ?last,
    fun htimer => ?abort⟩
  case wait =>
    exact ⟨selects_copy_of_no_word hst htimer hv, fun _ _ _ _ => next_dpkTick id htick⟩
  case stall =>
    exact ⟨by rw [selects_copy hst htimer hv, hr]; rfl, fun _ _ _ => next_dpkTick id htick⟩
  case xfer =>
    refine ⟨by rw [selects_copy hst htimer hv, hr, show dpkLastWord s = _ from hl]; rfl,
      fun _ _ => ?_⟩
    exact (next_dpkTick (fun d => { d with cnt := s.dpk.cnt + 1, st := .copy }) htick).trans
      (by rw [← hst])
  case last =>
    refine ⟨by rw [selects_copy hst htimer hv, hr, show dpkLastWord s = _ from hl]; rfl,
      fun _ _ => ?_⟩
    exact next_dpkTick (fun d => { d with st := .idle }) htick
  case abort =>
    obtain ⟨hvalid, hready⟩ := dpkOutputs_of_copy_timeout s.sy hst htimer
    exact ⟨hvalid, hready, selects_copy_timeout hst htimer,
      fun _ _ _ _ _ => raiseCause_timeoutAbort_eq htick⟩

end Sys2Proof.DepacketizerLaws
end

section
/-! The statements on the outputs of the Depacketizer, on the two event pulses and on the words
before a frame. -/

namespace Sys2Proof.DepacketizerLaws

open Sys2Proof.Machine Sys2Proof.EventLaws Sys2Proof.WireLaws

/-- The settled wires are those that the Depacketizer drives on them. -/
theorem driveDpk_settleSys (s : State) {i : SysIn} (h : i.rst = false) :
    dpkAccept s (dpkOffer s (settleSys s i)) = settleSys s i :=
  (settledWiresAreAFixedPoint.1 s i h).1

/-- Settles O35: driving the Depacketizer's outputs again leaves the settled wires as they are, so
the output rule of its state holds of them. -/
theorem depacketizerOutputs : Obligations.DepacketizerOutputs := by
  intro s i hrst
  have hdpk := driveDpk_settleSys s hrst
  obtain ⟨habort, -, -⟩ := settleSys_pulses (s := s) hrst
  refine ⟨habort, fun hst => ?idle, fun hst => ?receiveHeader, fun hst hdone => ?timeout,
    fun hst hdone => ?copy⟩
  case idle =>
    obtain ⟨hready, hvalid, -⟩ := hdpk ▸ dpkOutputs_of_idle (settleSys s i) hst
    exact ⟨hready, hvalid⟩
  case receiveHeader =>
    obtain ⟨hvalid, hready, -⟩ := hdpk ▸ dpkOutputs_of_receiveHeader (settleSys s i) hst
    exact ⟨by rw [hready, hst]; rfl, hvalid⟩
  case timeout =>
    have htimer := (timerDone_iff_of_busy (s := s) (by simp [hst])).1 hdone
    obtain ⟨hvalid, hready⟩ := hdpk ▸ dpkOutputs_of_copy_timeout (settleSys s i) hst htimer
    exact ⟨hready, hvalid⟩
  case copy =>
    have htimer : s.dpk.timer ≠ 0 := fun h0 =>
      Bool.false_ne_true (hdone.symm.trans (timerDone_of_timer_eq_zero (by simp [hst]) h0))
    obtain ⟨hvalid, hready, -, hpay⟩ := hdpk ▸ dpkOutputs_of_copy (settleSys s i) hst htimer
    exact ⟨hready, hvalid, hpay, by rw [transfers, transfers, hready, hvalid]⟩

/-- The Depacketizer forwards no word in an abort tick, so the dispatch half drops none (R195,
R232). -/
theorem unroutedPulse_of_timerDone {s : State} (h : timerDone s = true) (v : Bool) :
    unroutedPulse s v = false := by
  simp [unroutedPulse, dpkForwards, h]

/-- Settles O42: the abort pulse is `dpk.timer_done`, in which nothing is forwarded, and a timer is
done in a frame alone; in a reset tick both pulses are off. -/
theorem eventsExcludeEachOther : Obligations.EventsExcludeEachOther := by
  intro s i
  cases hrst : i.rst with
  | true => simp [settleSys, hrst, SysWires.off]
  | false =>
    obtain ⟨habort, hunrouted, -⟩ := settleSys_pulses (s := s) hrst
    rw [habort, hunrouted]
    refine ⟨?exclusive, fun hst => by simp [timerDone, hst]⟩
    cases hdone : timerDone s with
    | true => rw [unroutedPulse_of_timerDone hdone, Bool.and_false]
    | false => rfl

/-! ### Words before a frame (R198, R212) -/

section
variable {s : State}

/-- `IDLE` takes a word that is not the preamble and stays (R198). -/
theorem depacketize_garbage (n : Nat) {w : Word} (ws : List Word) (hst : s.dpk.st = .idle)
    (hw : w ≠ preamble) :
    ∃ t, t.cfg = s.cfg ∧ t.dpk.st = .idle ∧
      depacketize (n + 1) (w :: ws) s = depacketize n ws t := by
  have hdone : timerDone s = false := by simp [timerDone, hst]
  obtain ⟨t, hcfg, ht, hrun⟩ := depacketize_succ hdone n w ws
  refine ⟨t, hcfg, ?_, by simpa [hst] using hrun⟩
  simp [ht, nextDpk, fedDpk_dpkSink hdone, hst, hw]

/-- A run of such words delivers nothing and leaves `IDLE`. -/
theorem depacketize_all_garbage (n : Nat) {g : List Word} (ws : List Word)
    (hst : s.dpk.st = .idle) (hg : ∀ w ∈ g, w ≠ preamble) :
    ∃ t, t.cfg = s.cfg ∧ t.dpk.st = .idle ∧
      depacketize (g.length + n) (g ++ ws) s = depacketize n ws t := by
  induction g generalizing s with
  | nil => exact ⟨s, rfl, hst, by rw [List.length_nil, Nat.zero_add, List.nil_append]⟩
  | cons w g ih =>
    obtain ⟨u, hucfg, hu, hfirst⟩ :=
      depacketize_garbage (g.length + n) (g ++ ws) hst (hg w List.mem_cons_self)
    obtain ⟨t, htcfg, ht, hrest⟩ := ih hu fun x hx => hg x (List.mem_cons_of_mem w hx)
    refine ⟨t, htcfg.trans hucfg, ht, ?_⟩
    rw [List.length_cons, Nat.add_right_comm]
    exact hfirst.trans hrest

end

/-- Settles O56: the words before the frame are dropped one by one, and from the `IDLE` they leave
the frame is delivered. -/
theorem resynchronisation : Obligations.Resynchronisation := by
  intro s g p hwf hst hg hbound
  obtain ⟨u, hcfg, hu, hgarbage⟩ := depacketize_all_garbage (3 + p.payload.length) p.frame hst hg
  obtain ⟨t, ht, hframe⟩ := depacketize_frame hwf hu (hcfg ▸ hbound)
  rw [Nat.add_assoc, hgarbage, hframe]
  exact ⟨rfl, ht⟩

end Sys2Proof.DepacketizerLaws
end

section
/-! SUPPORT. The Depacketizer over a whole event: a system tick without reset applies its pure
next-state function to the settled wires, and an event in which the system domain does not tick
leaves it alone. -/

namespace Sys2Proof.DepacketizerLaws

open Sys2Proof.Machine Sys2Proof.EventLaws Sys2Proof.WireLaws

/-! ### Before its operation: the link domain's sites and the channels -/

/-- The configuration and the Depacketizer are the same, and so are the system wires but for their
transfer flags. -/
structure DpkKept (s t : State) : Prop where
  cfg : t.cfg = s.cfg
  dpk : t.dpk = s.dpk
  sy  : t.sy.withoutXfer = s.sy.withoutXfer

theorem DpkKept.refl (s : State) : DpkKept s s := ⟨rfl, rfl, rfl⟩

theorem DpkKept.trans {s t u : State} (h : DpkKept s t) (k : DpkKept t u) : DpkKept s u :=
  ⟨k.cfg.trans h.cfg, k.dpk.trans h.dpk, k.sy.trans h.sy⟩

section
variable {s t : State} {site : Site} {rest : List Site}

theorem DpkKept.sinkPay (h : DpkKept s t) : t.sy.dpkSink.pay = s.sy.dpkSink.pay :=
  congrArg (fun w => w.dpkSink.pay) h.sy

theorem DpkKept.pm (h : DpkKept s t) : t.sy.pm = s.sy.pm :=
  congrArg (fun w => w.pm) h.sy

/-- The next state of the Depacketizer reads no transfer flag of the wires. -/
theorem nextDpk_withoutXfer (c : Cfg) (d : Dpk) (w : SysWires) :
    nextDpk c d w = nextDpk c d w.withoutXfer := rfl

theorem DpkKept.nextDpk (h : DpkKept s t) :
    nextDpk t.cfg t.dpk t.sy = nextDpk s.cfg s.dpk s.sy := by
  rw [nextDpk_withoutXfer, h.cfg, h.dpk, h.sy, ← nextDpk_withoutXfer]

/-- Whatever a site of a tick under way leaves, the tick goes on from it. -/
theorem underway_of_step (hu : Underway s) (ha : s.agenda = site :: rest)
    (hstep : step s = .next t) : t.agenda = rest ∧ Underway t := by
  obtain ⟨u, hu', k⟩ := hu.siteStep ha
  obtain rfl := Host.Outcome.next.inj (hu'.symm.trans hstep)
  exact ⟨(List.cons.inj (k.agenda.symm.trans ha)).2, k.underway hu⟩

/-- The sites that write no system component write no system wire but a transfer flag. -/
theorem step_dpkKept (hu : Underway s) (ha : s.agenda = site :: rest)
    (h : sparesSys site = true) : ∃ t, step s = .next t ∧ DpkKept s t := by
  cases site with
  | ch c => exact ⟨_, step_ch ha, by simp, by simp, ChannelLaws.setXfer_sy_withoutXfer _ _ _⟩
  | lbf =>
    obtain ⟨st, hstep⟩ := step_lbf ha
    exact ⟨_, hstep, rfl, rfl, rfl⟩
  | rstLink =>
    refine ⟨_, step_rstLink ha (hu.live.linkReset (by simp [ha])), ?_⟩
    rw [resetLinkDomain_eq]
    exact ⟨rfl, rfl, rfl⟩
  | fq q =>
    cases q with
    | rxq => exact ⟨_, step_rxq ha, rfl, rfl, rfl⟩
    | txq => exact ⟨_, step_txq ha, rfl, rfl, rfl⟩
    | tlsq => exact absurd h (by decide)
  | sync q v f => cases q <;> exact ⟨_, step_sync ha, rfl, rfl, rfl⟩
  | _ => exact absurd h (by simp [sparesSys])

theorem runs_dpkKept {sites : List Site} (hu : Underway s) (ha : s.agenda = sites ++ rest)
    (hsites : ∀ site ∈ sites, sparesSys site = true) :
    ∃ t, Runs s t ∧ t.agenda = rest ∧ Underway t ∧ DpkKept s t := by
  refine runs_of_keeps (P := fun t => Underway t ∧ DpkKept s t) ?_ ⟨hu, .refl s⟩ ha
  rintro site hsite u rest' ⟨hu, kept⟩ hau
  obtain ⟨t, hstep, k⟩ := step_dpkKept hu hau (hsites site hsite)
  obtain ⟨ht, htu⟩ := underway_of_step hu hau hstep
  exact ⟨t, hstep, ht, htu, kept.trans k⟩

/-- The flag of `dpk.sink` says what the channel transfers (R124 to R126). -/
def SinkFlagged (s : State) : Prop := s.sy.dpkSink.xfer = transfers s.sy.dpkSink

/-- The channel operation of `dpk.sink` drives the flag, and no other touches it. -/
theorem sinkFlagged_step {c : ChanId} (ha : s.agenda = .ch c :: rest) (hstep : step s = .next t)
    (h : c = .dpkSink ∨ SinkFlagged s) : SinkFlagged t := by
  obtain rfl := Host.Outcome.next.inj ((step_ch ha).symm.trans hstep)
  rcases h with rfl | h
  · rfl
  · cases c with
    | dpkSink => rfl
    | _ => exact h

/-- One channel of a tick; the flag of `dpk.sink` is right from that channel's operation on. -/
theorem step_ch_flagged {c : ChanId} (hu : Underway s) (ha : s.agenda = .ch c :: rest)
    (h : c = .dpkSink ∨ SinkFlagged s) :
    ∃ t, step s = .next t ∧ t.agenda = rest ∧ Underway t ∧ DpkKept s t ∧ SinkFlagged t := by
  obtain ⟨t, hstep, kept⟩ := step_dpkKept hu ha rfl
  obtain ⟨ht, htu⟩ := underway_of_step hu ha hstep
  exact ⟨t, hstep, ht, htu, kept, sinkFlagged_step ha hstep h⟩

/-- The system channels' part of a tick, of which `dpk.sink` is the first. -/
theorem runs_sysChannels {c : Cfg} (hu : Underway s)
    (ha : s.agenda = (sysChannels c).map .ch ++ rest) :
    ∃ t, Runs s t ∧ t.agenda = rest ∧ Underway t ∧ DpkKept s t ∧ SinkFlagged t := by
  have hfirst : s.agenda = .ch .dpkSink :: ((sysChannels c).tail.map .ch ++ rest) := ha
  obtain ⟨u, hstep, hau, hu⟩ := step_ch_flagged hu hfirst (.inl rfl)
  obtain ⟨t, hrun, ht, hPt⟩ := runs_of_keeps
    (P := fun t => Underway t ∧ DpkKept s t ∧ SinkFlagged t)
    (fun site hsite v rest' ⟨hv, kept, hflag⟩ hav => by
      obtain ⟨d, -, rfl⟩ := List.mem_map.1 hsite
      obtain ⟨t, hstep, ht, htu, k, htflag⟩ := step_ch_flagged hv hav (.inr hflag)
      exact ⟨t, hstep, ht, htu, kept.trans k, htflag⟩) hu hau
  exact ⟨t, (Runs.one hfirst hstep hau).trans hrun, ht, hPt⟩

end

/-! ### After its operation: the other components and the cross-domain FIFOs -/

/-- The sites of a system tick after the Depacketizer and the frame word. -/
def sitesAfterDpk : List Site := [.xd, .tlr, .tls, .xa, .pkt, .fq .rxq, .fq .txq]

/-- The configuration, the Depacketizer and the abort pulse are the same. -/
structure AbortKept (s t : State) : Prop where
  cfg      : t.cfg = s.cfg
  dpk      : t.dpk = s.dpk
  abortEvt : t.sy.abortEvt = s.sy.abortEvt

section
variable {s t : State} {site : Site} {rest : List Site}

theorem AbortKept.trans {u : State} (h : AbortKept s t) (k : AbortKept t u) : AbortKept s u :=
  ⟨k.cfg.trans h.cfg, k.dpk.trans h.dpk, k.abortEvt.trans h.abortEvt⟩

theorem step_sitesAfterDpk (hu : Underway s) (ha : s.agenda = site :: rest)
    (h : site ∈ sitesAfterDpk) : ∃ t, step s = .next t ∧ AbortKept s t := by
  simp only [sitesAfterDpk, List.mem_cons, List.not_mem_nil, or_false] at h
  rcases h with rfl | rfl | rfl | rfl | rfl | rfl | rfl
  · obtain ⟨x, -, hstep⟩ := step_xd ha
    exact ⟨_, hstep, rfl, rfl, rfl⟩
  · obtain ⟨v, hstep⟩ := step_tlr ha
    exact ⟨_, hstep, rfl, rfl, rfl⟩
  · obtain ⟨v, hstep⟩ := step_tls ha (TlsInv.lastWord_eq_false hu.tls)
    exact ⟨_, hstep, rfl, rfl, rfl⟩
  · obtain ⟨x, -, hstep⟩ := step_xa ha
    exact ⟨_, hstep, rfl, rfl, rfl⟩
  · obtain ⟨p, hstep⟩ := step_pkt ha hu.hidx
    exact ⟨_, hstep, rfl, rfl, rfl⟩
  · exact ⟨_, step_rxq ha, rfl, rfl, rfl⟩
  · exact ⟨_, step_txq ha, rfl, rfl, rfl⟩

theorem runs_sitesAfterDpk (hu : Underway s) (ha : s.agenda = sitesAfterDpk) :
    ∃ t, Runs s t ∧ t.agenda = [] ∧ Underway t ∧ AbortKept s t := by
  refine runs_of_keeps (P := fun t => Underway t ∧ AbortKept s t) ?_ ⟨hu, rfl, rfl, rfl⟩
    (ha.trans (List.append_nil _).symm)
  rintro site hsite u rest' ⟨hu, kept⟩ hau
  obtain ⟨t, hstep, k⟩ := step_sitesAfterDpk hu hau hsite
  obtain ⟨ht, htu⟩ := underway_of_step hu hau hstep
  exact ⟨t, hstep, ht, htu, kept.trans k⟩

/-! ### The word of a frame, which writes what the Depacketizer's operation has written -/

/-- `dpk` after a word of a frame (R91 to R94). -/
def dpkAfterWord (w : Word) (d : Dpk) : FramePos → Dpk
  | .w1 => { d with dstR := tagField w }
  | .w2 => { d with lenR := w }
  | .w0 | .payload => d

theorem step_lp_dpk {k : FramePos} (ha : s.agenda = .lp k :: rest)
    (hk : k = .w0 → s.sy.dpkSink.pay = preamble) :
    ∃ t, step s = .next t ∧ t.cfg = s.cfg ∧
      t.dpk = dpkAfterWord s.sy.dpkSink.pay s.dpk k ∧ t.sy.abortEvt = s.sy.abortEvt := by
  cases k with
  | w0 => exact ⟨_, step_of_selects ha (selects_lp_w0 s (hk rfl)), rfl, rfl, rfl⟩
  | w1 => exact ⟨_, step_of_selects ha (i := .lpW1 _ _) rfl, rfl, rfl, rfl⟩
  | w2 => exact ⟨_, step_of_selects ha (i := .lpW2 _) rfl, rfl, rfl, rfl⟩
  | payload => exact ⟨_, step_of_selects ha (i := .lpPayload _) rfl, rfl, rfl, rfl⟩

/-- A tick that takes a word is no abort tick. -/
theorem timer_ne_zero_of_transfers {w : SysWires} (hw : dpkAccept s (dpkOffer s w) = w)
    (hst : s.dpk.st ≠ .idle) (h : transfers w.dpkSink = true) : s.dpk.timer ≠ 0 := by
  intro h0
  have hready : w.dpkSink.ready = false := by
    cases hs : s.dpk.st with
    | idle => exact absurd hs hst
    | receiveHeader =>
      obtain ⟨-, hready, -⟩ := hw ▸ dpkOutputs_of_receiveHeader w hs
      rw [hready, h0]
      rfl
    | copy =>
      obtain ⟨-, hready⟩ := hw ▸ dpkOutputs_of_copy_timeout w hs h0
      exact hready
  simp [transfers, hready] at h

/-- The word at the position of R95 finds its field written. -/
theorem dpkAfterWord_nextDpk {k : FramePos} (hw : dpkAccept s (dpkOffer s s.sy) = s.sy)
    (h : transfers s.sy.dpkSink = true) (hk : framePos s = some k) :
    dpkAfterWord s.sy.dpkSink.pay (nextDpk s.cfg s.dpk s.sy) k = nextDpk s.cfg s.dpk s.sy := by
  have hvalid : s.sy.dpkSink.valid = true := (Bool.and_eq_true_iff.1 h).1
  unfold framePos at hk
  cases hst : s.dpk.st with
  | idle =>
    rw [hst] at hk
    by_cases hp : s.sy.dpkSink.pay = preamble
    · obtain rfl : k = .w0 := by simpa [hp] using hk.symm
      rfl
    · simp [hp] at hk
  | receiveHeader =>
    have htimer := timer_ne_zero_of_transfers hw (by simp [hst]) h
    rw [hst] at hk
    cases hh : s.dpk.hcnt with
    | false =>
      obtain rfl : k = .w1 := by simpa [hh] using hk.symm
      simp [dpkAfterWord, nextDpk, tagField, hst, htimer, hvalid, hh]
    | true =>
      obtain rfl : k = .w2 := by simpa [hh] using hk.symm
      simp [dpkAfterWord, nextDpk, hst, htimer, hvalid, hh]
  | copy =>
    rw [hst] at hk
    obtain rfl : k = .payload := by simpa using hk.symm
    rfl

/-- The frame word's part of a tick that opened as `u`, after the Depacketizer's operation. -/
theorem runs_frameWord {u : State} (hs : Underway s) (ha : s.agenda = frameSite u ++ rest)
    (hw : dpkAccept u (dpkOffer u u.sy) = u.sy) (hpay : s.sy.dpkSink.pay = u.sy.dpkSink.pay)
    (hdpk : s.dpk = nextDpk u.cfg u.dpk u.sy) :
    ∃ t, Runs s t ∧ t.agenda = rest ∧ Underway t ∧ AbortKept s t := by
  have hnone (h : frameSite u = []) : ∃ t, Runs s t ∧ t.agenda = rest ∧ Underway t ∧
      AbortKept s t := ⟨s, .refl s, by rw [ha, h]; rfl, hs, rfl, rfl, rfl⟩
  cases htake : transfers u.sy.dpkSink with
  | false => exact hnone (if_neg (by simpa [transfers] using htake))
  | true =>
    have hsite : frameSite u = (framePos u).toList.map .lp := if_pos htake
    cases hk : framePos u with
    | none => exact hnone (by rw [hsite, hk]; rfl)
    | some k =>
      rw [hsite, hk] at ha
      obtain ⟨t, hstep, hcfg, hword, habort⟩ :=
        step_lp_dpk ha fun h => (hs.live.frameStart (by simp [ha, h])).1
      rw [hpay, hdpk, dpkAfterWord_nextDpk hw htake hk, ← hdpk] at hword
      obtain ⟨ht, htu⟩ := underway_of_step hs ha hstep
      exact ⟨t, .one ha hstep ht, ht, htu, hcfg, hword, habort⟩

end

/-! ### A whole event -/

section
variable {s : State}

/-- The Depacketizer's own part of a tick. -/
theorem runs_dpk {rest : List Site} (hu : Underway s) (ha : s.agenda = .dpk :: rest)
    (hflag : SinkFlagged s) (hpm : s.sy.pm = (s.sy.dpkSink.pay == preamble)) :
    ∃ t, Runs s t ∧ t.agenda = rest ∧ Underway t ∧ t.cfg = s.cfg ∧
      t.dpk = nextDpk s.cfg s.dpk s.sy ∧ t.sy.dpkSink.pay = s.sy.dpkSink.pay ∧
      t.sy.abortEvt = timerDone s := by
  have hstep := (step_eq_runSite ha).trans (runSite_dpk (s := s.setAgenda rest) hflag hpm)
  obtain ⟨ht, htu⟩ := underway_of_step hu ha hstep
  exact ⟨_, .one ha hstep ht, ht, htu, rfl, rfl, rfl, rfl⟩

/-- The system domain's part of a tick without reset that opened as `u`. -/
theorem runs_sysTick {u : State} {i : SysIn} (hs : Underway s) (hi : i.rst = false)
    (ha : s.agenda = sysSites u i ++ fifoSites) (kept : DpkKept u s)
    (hw : dpkAccept u (dpkOffer u u.sy) = u.sy)
    (hpm : u.sy.pm = (u.sy.dpkSink.pay == preamble)) :
    ∃ t, Runs s t ∧ t.agenda = [] ∧ Underway t ∧ t.cfg = u.cfg ∧
      t.dpk = nextDpk u.cfg u.dpk u.sy ∧ t.sy.abortEvt = timerDone u := by
  simp only [sysSites, hi, Bool.false_eq_true, if_false, List.append_assoc, List.cons_append,
    List.nil_append] at ha
  obtain ⟨c, rc, hc, hcu, keptc, hflag⟩ := runs_sysChannels hs ha
  have keptc := kept.trans keptc
  obtain ⟨d, rd, hd, hdu, hdcfg, hddpk, hdpay, hdabort⟩ := runs_dpk hcu hc hflag
    (by rw [keptc.pm, keptc.sinkPay, hpm])
  obtain ⟨f, rf, hf, hfu, keptf⟩ := runs_frameWord hdu hd hw (hdpay.trans keptc.sinkPay)
    (hddpk.trans keptc.nextDpk)
  obtain ⟨t, rt, ht, htu, keptt⟩ := runs_sitesAfterDpk hfu hf
  refine ⟨t, rc.trans (rd.trans (rf.trans rt)), ht, htu, ?_, ?_, ?_⟩
  · rw [keptt.cfg, keptf.cfg, hdcfg, keptc.cfg]
  · rw [keptt.dpk, keptf.dpk, hddpk, keptc.nextDpk]
  · rw [keptt.abortEvt, keptf.abortEvt, hdabort, timerDone_congr keptc.dpk]

theorem settleSys_pm {i : SysIn} (hi : i.rst = false) :
    (settleSys s i).pm = ((settleSys s i).dpkSink.pay == preamble) := by
  rw [settleSys_of_not_rst hi]
  rfl

/-- The wires settle in the state that a tick opens as in the state before it. -/
theorem settleSys_openTick (link : Option LinkIn) (i : SysIn) :
    settleSys (openTick s link (some i)) i = (openTick s link (some i)).sy := by
  rw [openTick_eq, openTick_sy]
  rfl

/-- A system tick without reset applies the Depacketizer's next-state function to the settled
wires, whatever the link domain does at the same instant. -/
theorem perform_sysTick_dpk (h : Ready s) (link : Option LinkIn) {i : SysIn} (hi : i.rst = false) :
    ∃ t, perform (.tick link (some i)) s = .next t ∧ Ready t ∧ t.cfg = s.cfg ∧
      t.dpk = nextDpk s.cfg s.dpk (settleSys (opening s) i) ∧ t.sy.abortEvt = timerDone s := by
  have hopen := openTick_sy (opening s) link (some i)
  have hdpk : (openTick (opening s) link (some i)).dpk = s.dpk := openTick_dpk _ _ _
  have hwires := driveDpk_settleSys (openTick (opening s) link (some i)) hi
  have hpm := settleSys_pm (s := openTick (opening s) link (some i)) hi
  rw [settleSys_openTick] at hwires hpm
  obtain ⟨c, rc, hc, hcu, kept⟩ := runs_dpkKept (h.underway.opening.openTick link (some i))
    (openTick_agenda link (some i)) (sparesSys_linkSitesOf link)
  obtain ⟨t, rt, ht, htu, hcfg, htdpk, habort⟩ := runs_sysTick hcu hi hc kept hwires hpm
  refine ⟨t, perform_tick h.underway.admitted h.atRest (rc.trans rt) ht, ⟨ht, htu⟩, ?_, ?_, ?_⟩
  · rw [hcfg, openTick_cfg, opening_cfg]
  · rw [htdpk, openTick_cfg, opening_cfg, hdpk, hopen]
    rfl
  · rw [habort, timerDone_congr hdpk]

/-- An event in which the system domain does not tick leaves the Depacketizer alone. -/
theorem perform_noSysTick_dpk (h : Ready s) {e : Event} (he : ticksSys e = false) :
    ∃ t, perform e s = .next t ∧ Ready t ∧ t.cfg = s.cfg ∧ t.dpk = s.dpk := by
  cases e with
  | sync q v f =>
    have hu : Underway ((opening s).setAgenda [.sync q v f]) :=
      ⟨h.underway.admitted, h.underway.hidx, h.underway.tls, by simp, h.underway.live.elaborated,
        by simp, by simp, by simp, by simp⟩
    obtain ⟨t, rt, ht, htu, kept⟩ :=
      runs_dpkKept (sites := [.sync q v f]) (rest := []) hu rfl (by simp [sparesSys])
    exact ⟨t, perform_sync h.atRest rt ht, ⟨ht, htu⟩, kept.cfg, kept.dpk⟩
  | tick link sys =>
    cases sys with
    | some i => exact absurd he (by simp [ticksSys])
    | none =>
      have ha := openTick_agenda (s := opening s) link none
      have hsites : ∀ site ∈ linkSitesOf link ++ fifoSites, sparesSys site = true := fun site hm =>
        (List.mem_append.1 hm).elim (sparesSys_linkSitesOf link site) (sparesSys_fifoSites site)
      obtain ⟨t, rt, ht, htu, kept⟩ := runs_dpkKept (rest := [])
        (h.underway.opening.openTick link none) (ha.trans (List.append_nil _).symm) hsites
      refine ⟨t, perform_tick h.underway.admitted h.atRest rt ht, ⟨ht, htu⟩, ?_, ?_⟩
      · rw [kept.cfg, openTick_cfg, opening_cfg]
      · rw [kept.dpk, openTick_dpk]
        rfl

end

end Sys2Proof.DepacketizerLaws
end

section
/-! The statement on the tick in which an unfinished frame is aborted: both modes at once, the timer
counted down system tick by system tick. -/

namespace Sys2Proof.DepacketizerLaws

open Sys2Proof.Machine Sys2Proof.EventLaws Sys2Proof.WireLaws

/-! ### What the next-state function does to the timer, the abort count and the state -/

section
variable (c : Cfg) (d : Dpk) (w : SysWires)

theorem nextDpk_timer : (nextDpk c d w).timer = timerAfter c d (transfers w.dpkSink) := by
  cases hst : d.st <;> simp only [nextDpk, hst] <;> (repeat' split) <;> rfl

/-- A spent timer aborts (R203, R208). -/
theorem nextDpk_of_timeout (hst : d.st ≠ .idle) (htimer : d.timer = 0) :
    (nextDpk c d w).st = .idle ∧ (nextDpk c d w).abortCount = d.abortCount + 1 := by
  cases hs : d.st with
  | idle => exact absurd hs hst
  | receiveHeader | copy => simp [nextDpk, hs, htimer]

/-- Nothing else counts an abort. -/
theorem nextDpk_abortCount (h : d.st = .idle ∨ d.timer ≠ 0) :
    (nextDpk c d w).abortCount = d.abortCount := by
  cases hst : d.st with
  | idle =>
    simp only [nextDpk, hst]
    split <;> rfl
  | receiveHeader | copy =>
    have htimer : d.timer ≠ 0 := h.resolve_left (by simp [hst])
    simp only [nextDpk, hst, if_neg htimer]
    (repeat' split) <;> rfl

/-- A preamble starts a frame (R199). -/
theorem nextDpk_st_of_preamble (hst : d.st = .idle) (hvalid : w.dpkSink.valid = true)
    (hpay : w.dpkSink.pay = preamble) : (nextDpk c d w).st = .receiveHeader := by
  simp [nextDpk, hst, hvalid, hpay]

end

section
variable {s : State} {w : SysWires}

/-- Before its timeout a frame goes on until its last word is transferred (R200 to R207). -/
theorem nextDpk_st_ne_idle (hw : dpkAccept s (dpkOffer s w) = w) (hst : s.dpk.st ≠ .idle)
    (htimer : s.dpk.timer ≠ 0) (hends : (transfers w.dpkSource && w.dpkSource.pay.last) = false) :
    (nextDpk s.cfg s.dpk w).st ≠ .idle := by
  cases hs : s.dpk.st with
  | idle => exact absurd hs hst
  | receiveHeader =>
    simp only [nextDpk, hs, if_neg htimer]
    (repeat' split) <;> simp
  | copy =>
    obtain ⟨hvalid, -, -, hpay⟩ := hw ▸ dpkOutputs_of_copy w hs htimer
    rw [transfers, hvalid, hpay] at hends
    cases hmoves : w.dpkSink.valid && w.dpkSource.ready with
    | false => simp [nextDpk, hs, htimer, hmoves]
    | true =>
      have hlast : ¬ dpkLastWord s = true := by simpa [hmoves] using hends
      rw [dpkLastWord_iff] at hlast
      simp only [nextDpk, hs, if_neg htimer, hmoves, if_neg hlast]
      nofun

/-- The last word of a frame is transferred on both sides of the Depacketizer (R195). -/
theorem transfers_dpkSink_of_dpkSource (hw : dpkAccept s (dpkOffer s w) = w)
    (h : transfers w.dpkSource = true) : transfers w.dpkSink = true := by
  have hvalid : w.dpkSource.valid = true := (Bool.and_eq_true_iff.1 h).1
  cases hs : s.dpk.st with
  | idle =>
    obtain ⟨-, hoff, -⟩ := hw ▸ dpkOutputs_of_idle w hs
    exact absurd (hoff.symm.trans hvalid) Bool.false_ne_true
  | receiveHeader =>
    obtain ⟨hoff, -⟩ := hw ▸ dpkOutputs_of_receiveHeader w hs
    exact absurd (hoff.symm.trans hvalid) Bool.false_ne_true
  | copy =>
    by_cases htimer : s.dpk.timer = 0
    · obtain ⟨hoff, -⟩ := hw ▸ dpkOutputs_of_copy_timeout w hs htimer
      exact absurd (hoff.symm.trans hvalid) Bool.false_ne_true
    · obtain ⟨hsource, hready, -⟩ := hw ▸ dpkOutputs_of_copy w hs htimer
      rw [transfers, hready, ← hsource]
      exact h

end

/-! ### The same of an event -/

section
variable {s : State} {link : Option LinkIn} {i : SysIn} {e : Event}

theorem takesWord_sysTick :
    takesWord s (.tick link (some i)) = transfers (settleSys (opening s) i).dpkSink := rfl

theorem endsFrame_sysTick : endsFrame s (.tick link (some i)) =
    (transfers (settleSys (opening s) i).dpkSource &&
      (settleSys (opening s) i).dpkSource.pay.last) := rfl

/-- An event that ends a frame takes a word. -/
theorem endsFrame_eq_false_of_not_takesWord (he : NoSysReset e) (h : takesWord s e = false) :
    endsFrame s e = false := by
  cases hsys : ticksSys e with
  | false =>
    cases e with
    | sync q v f => rfl
    | tick link sys =>
      cases sys with
      | none => rfl
      | some i => exact absurd hsys (by simp [ticksSys])
  | true =>
    obtain ⟨link, i, rfl, hi⟩ := he hsys
    rw [takesWord_sysTick] at h
    rw [endsFrame_sysTick, Bool.and_eq_false_iff]
    exact .inl (Bool.eq_false_iff.2 fun hsource => Bool.false_ne_true (h.symm.trans
      (transfers_dpkSink_of_dpkSource (driveDpk_settleSys (opening s) hi) hsource)))

/-- `IDLE` takes every word that is visible (R195). -/
theorem takesWord_of_idle (he : SysTick e) (hst : s.dpk.st = .idle) (hvis : 0 < s.rxq.vis) :
    takesWord s e = true := by
  obtain ⟨link, i, rfl, hi⟩ := he
  obtain ⟨-, -, hvalid⟩ := settleSys_pulses (s := opening s) hi
  obtain ⟨hready, -⟩ := driveDpk_settleSys (opening s) hi ▸
    dpkOutputs_of_idle (s := opening s) (settleSys (opening s) i) hst
  rw [takesWord_sysTick, transfers, hvalid, hready, Bool.and_true]
  exact decide_eq_true hvis

theorem endsFrame_of_idle (he : SysTick e) (hst : s.dpk.st = .idle) : endsFrame s e = false := by
  obtain ⟨link, i, rfl, hi⟩ := he
  obtain ⟨-, hvalid, -⟩ := driveDpk_settleSys (opening s) hi ▸
    dpkOutputs_of_idle (s := opening s) (settleSys (opening s) i) hst
  rw [endsFrame_sysTick, transfers, hvalid]
  rfl

/-- The word on `dpk.sink` is the head of `rxq` (R133). -/
theorem settleSys_dpkSink_pay {x : Word} (hi : i.rst = false) (hhead : s.rxq.items.head? = some x) :
    (settleSys s i).dpkSink.pay = x := by
  rw [settleSys_of_not_rst hi]
  change s.rxq.items.headD _ = x
  rw [List.headD_eq_head?_getD, hhead]
  rfl

end

/-! ### The countdown -/

/-- A core at rest under the configuration `c`, in a frame whose timer stands at `n`, the abort
count at `k`. -/
structure InFrame (c : Cfg) (k : Word) (n : Nat) (s : State) : Prop where
  ready      : Ready s
  cfg        : s.cfg = c
  st         : s.dpk.st ≠ .idle
  timer      : s.dpk.timer = n
  abortCount : s.dpk.abortCount = k

/-- The event neither ends the frame nor, in word mode, takes a word that restarts the timer. -/
def LeavesTimer (c : Cfg) (s : State) (e : Event) : Prop :=
  endsFrame s e = false ∧ (c.depackTimerRestartOnWord = true → takesWord s e = false)

section
variable {c : Cfg} {k : Word} {n : Nat} {s : State} {e : Event}

/-- A tick that takes a word of a frame, and does not end it, leaves the timer loaded: if it is the
preamble, or in word mode (R193). -/
theorem inFrame_of_takesWord (hr : Ready s) (he : SysTick e) (htakes : takesWord s e = true)
    (hends : endsFrame s e = false)
    (hhead : s.dpk.st = .idle → s.rxq.items.head? = some preamble)
    (hmode : s.dpk.st ≠ .idle → s.cfg.depackTimerRestartOnWord = true) :
    ∃ t, perform e s = .next t ∧
      InFrame s.cfg s.dpk.abortCount (s.cfg.depackTimeout - 1) t := by
  obtain ⟨link, i, rfl, hi⟩ := he
  obtain ⟨t, ht, hrt, hcfg, hdpk, -⟩ := perform_sysTick_dpk hr link hi
  have hw := driveDpk_settleSys (opening s) hi
  rw [takesWord_sysTick] at htakes
  have hvalid := (Bool.and_eq_true_iff.1 htakes).1
  have htimer := timer_ne_zero_of_transfers (s := opening s) hw
  refine ⟨t, ht, hrt, hcfg, ?st, ?timer, ?abortCount⟩
  case st =>
    rw [hdpk]
    by_cases hst : s.dpk.st = .idle
    · rw [nextDpk_st_of_preamble _ _ _ hst hvalid (settleSys_dpkSink_pay hi (hhead hst))]
      nofun
    · exact nextDpk_st_ne_idle (s := opening s) hw hst (htimer hst htakes) hends
  case timer =>
    rw [hdpk, nextDpk_timer, timerAfter, htakes]
    by_cases hst : s.dpk.st = .idle
    · rw [if_pos hst]
    · rw [if_neg hst, hmode hst]
      rfl
  case abortCount =>
    rw [hdpk]
    exact nextDpk_abortCount _ _ _ (or_iff_not_imp_left.2 fun hst => htimer hst htakes)

/-- A system tick counts the timer down. -/
theorem InFrame.next (h : InFrame c k (n + 1) s) (he : SysTick e) (hleaves : LeavesTimer c s e) :
    ∃ t, perform e s = .next t ∧ InFrame c k n t := by
  obtain ⟨link, i, rfl, hi⟩ := he
  obtain ⟨t, ht, hrt, hcfg, hdpk, -⟩ := perform_sysTick_dpk h.ready link hi
  obtain ⟨hends, htakes⟩ := hleaves
  have htimer : s.dpk.timer ≠ 0 := h.timer ▸ Nat.succ_ne_zero n
  refine ⟨t, ht, hrt, hcfg.trans h.cfg, ?st, ?timer, ?abortCount⟩
  case st =>
    rw [hdpk]
    exact nextDpk_st_ne_idle (s := opening s) (driveDpk_settleSys (opening s) hi) h.st htimer hends
  case timer =>
    have hrestart : (s.cfg.depackTimerRestartOnWord &&
        transfers (settleSys (opening s) i).dpkSink) = false := by
      rw [h.cfg, Bool.and_eq_false_imp]
      exact htakes
    rw [hdpk, nextDpk_timer, timerAfter, if_neg h.st, hrestart, h.timer]
    rfl
  case abortCount =>
    rw [hdpk, nextDpk_abortCount _ _ _ (.inr htimer), h.abortCount]

/-- Any other event leaves the timer alone. -/
theorem InFrame.pause (h : InFrame c k n s) (he : ticksSys e = false) :
    ∃ t, perform e s = .next t ∧ InFrame c k n t := by
  obtain ⟨t, ht, hrt, hcfg, hdpk⟩ := perform_noSysTick_dpk h.ready he
  exact ⟨t, ht, hrt, hcfg.trans h.cfg, by rw [hdpk]; exact h.st, by rw [hdpk, h.timer],
    by rw [hdpk, h.abortCount]⟩

/-- The system tick that finds the timer spent aborts the frame. -/
theorem InFrame.aborts (h : InFrame c k 0 s) (he : SysTick e) :
    ∃ t, perform e s = .next t ∧ t.dpk.st = .idle ∧ t.dpk.abortCount = k + 1 ∧
      t.sy.abortEvt = true := by
  obtain ⟨link, i, rfl, hi⟩ := he
  obtain ⟨t, ht, -, -, hdpk, habort⟩ := perform_sysTick_dpk h.ready link hi
  obtain ⟨hst, hcount⟩ := nextDpk_of_timeout s.cfg s.dpk (settleSys (opening s) i) h.st h.timer
  exact ⟨t, ht, by rw [hdpk, hst], by rw [hdpk, hcount, h.abortCount],
    habort.trans (timerDone_of_timer_eq_zero h.st h.timer)⟩

/-- Events that leave the timer to itself count it down, system tick by system tick. -/
theorem InFrame.run {es : List Event} (h : InFrame c k (n + es.countP ticksSys) s)
    (hes : ∀ a ∈ es, NoSysReset a) (hleaves : along (LeavesTimer c) es s) :
    ∃ t, performAll es s = .next t ∧ InFrame c k n t := by
  induction es generalizing s with
  | nil => exact ⟨s, rfl, h⟩
  | cons e es ih =>
    have hrest := fun a ha => hes a (List.mem_cons_of_mem e ha)
    have hfirst : ∃ u, perform e s = .next u ∧ InFrame c k (n + es.countP ticksSys) u := by
      cases hsys : ticksSys e with
      | false =>
        rw [List.countP_cons_of_neg (by simp [hsys])] at h
        exact h.pause hsys
      | true =>
        rw [List.countP_cons_of_pos hsys, ← Nat.add_assoc] at h
        exact h.next (hes e List.mem_cons_self hsys) hleaves.1
    obtain ⟨u, hu, hin⟩ := hfirst
    obtain ⟨t, ht, hout⟩ := ih hin hrest (hleaves.2 u hu)
    exact ⟨t, (LinkBusLaws.performAll_cons hu).trans ht, hout⟩

end

theorem performAll_append {es fs : List Event} {s t : State} (h : performAll es s = .next t) :
    performAll (es ++ fs) s = performAll fs t := by
  induction es generalizing s with
  | nil => rw [← Host.Outcome.next.inj h]; rfl
  | cons e es ih =>
    cases hu : perform e s with
    | next u =>
      rw [LinkBusLaws.performAll_cons hu] at h
      rw [List.cons_append, LinkBusLaws.performAll_cons hu, ih h]
    | fault r => simp [performAll, hu] at h
    | refused r => simp [performAll, hu] at h

/-- What every event meets along a sequence, it meets as far as something weaker is asked. -/
theorem along_mono {P Q : State → Event → Prop} {es : List Event} {s : State}
    (h : ∀ a ∈ es, ∀ u, P u a → Q u a) (hP : along P es s) : along Q es s := by
  induction es generalizing s with
  | nil => trivial
  | cons e es ih =>
    exact ⟨h e List.mem_cons_self s hP.1, fun t ht =>
      ih (fun a ha => h a (List.mem_cons_of_mem e ha)) (hP.2 t ht)⟩

/-- A frame whose timer an event has loaded, and which the next ones leave to it, is in progress
after each of them, and the system tick after `DEPACK_TIMEOUT - 1` of them aborts it. -/
theorem abortsAtTimeout {s : State} {e : Event} {es : List Event}
    (hstart : ∃ t, perform e s = .next t ∧
      InFrame s.cfg s.dpk.abortCount (s.cfg.depackTimeout - 1) t)
    (hes : ∀ a ∈ es, NoSysReset a) (hcount : es.countP ticksSys < s.cfg.depackTimeout)
    (hleaves : ∀ t, perform e s = .next t → along (LeavesTimer s.cfg) es t) :
    (∃ t, performAll (e :: es) s = .next t ∧ t.dpk.st ≠ .idle ∧
      t.dpk.abortCount = s.dpk.abortCount) ∧
    (es.countP ticksSys = s.cfg.depackTimeout - 1 → ∀ a, SysTick a →
      ∃ t, performAll (e :: es ++ [a]) s = .next t ∧ t.dpk.st = .idle ∧
        t.dpk.abortCount = s.dpk.abortCount + 1 ∧ t.sy.abortEvt = true) := by
  obtain ⟨u, hu, hin⟩ := hstart
  have hleft : s.cfg.depackTimeout - 1 =
      s.cfg.depackTimeout - 1 - es.countP ticksSys + es.countP ticksSys := by omega
  rw [hleft] at hin
  obtain ⟨t, ht, hout⟩ := hin.run hes (hleaves u hu)
  have hrun : performAll (e :: es) s = .next t := (LinkBusLaws.performAll_cons hu).trans ht
  refine ⟨⟨t, hrun, hout.st, hout.abortCount⟩, fun hall a ha => ?_⟩
  rw [hall, Nat.sub_self] at hout
  obtain ⟨v, hv, habort⟩ := hout.aborts ha
  exact ⟨v, by rw [performAll_append hrun, LinkBusLaws.performAll_cons hv]; rfl, habort⟩

/-- Settles O53: in frame mode the preamble loads the timer and nothing restarts it, in word mode
the last word taken does; from then on the system ticks count it down. -/
theorem abortComesExactlyAtTimeout : Obligations.AbortComesExactlyAtTimeout := by
  intro s e es hinv h he hes hcount
  have hready := Ready.ofInv hinv h
  refine ⟨fun hmode hst hvis hhead hquiet => ?frameMode,
    fun hmode htakes hhead hends hquiet => ?wordMode⟩
  case frameMode =>
    have hstart := inFrame_of_takesWord hready he (takesWord_of_idle he hst hvis)
      (endsFrame_of_idle he hst) (fun _ => hhead) (fun hne => absurd hst hne)
    exact abortsAtTimeout hstart hes hcount fun t ht => along_mono
      (fun _ _ _ hends => ⟨hends, fun hword => absurd (hmode.symm.trans hword) Bool.false_ne_true⟩)
      (hquiet t ht)
  case wordMode =>
    have hstart := inFrame_of_takesWord hready he htakes hends hhead fun _ => hmode
    exact abortsAtTimeout hstart hes hcount fun t ht => along_mono
      (fun a ha _ hnone => ⟨endsFrame_eq_false_of_not_takesWord (hes a ha) hnone, fun _ => hnone⟩)
      (hquiet t ht)

end Sys2Proof.DepacketizerLaws
end

section
/-! SUPPORT. How many channels each indexed family of the settled system wires has, and that a
channel that offers a word is one of them. -/

namespace Sys2Proof.WireLaws

open Sys2Proof.Machine

/-- A channel that offers a word exists. -/
theorem lt_length_of_portChan_valid {l : List (Chan UpWord)} {k : Nat}
    (h : (portChan l k).valid = true) : k < l.length := by
  by_contra hk
  rw [portChan_of_length_le (Nat.le_of_not_lt hk)] at h
  exact Bool.false_ne_true h

section
variable {s : State} {y : SysIn}

theorem inPorts_length_settleSys (h : y.rst = false) :
    (settleSys s y).inPorts.length = s.cfg.nPorts := by
  rw [settleSys_of_not_rst h]
  simp [settleOutbound, settleInbound, tlsAccept, xaAccept, pktAccept, pktOffer, xaOffer, tlsOffer,
    dpkAccept, xdAccept, tlrAccept, tlrOffer, xdOffer, dpkOffer, sysInputs, Cfg.nPorts]

theorem outPorts_length_settleSys (h : y.rst = false) :
    (settleSys s y).outPorts.length = s.cfg.nPorts := by
  rw [settleSys_of_not_rst h]
  simp [settleOutbound, settleInbound, tlsAccept, xaAccept, pktAccept, pktOffer, xaOffer, tlsOffer,
    dpkAccept, xdAccept, tlrAccept, tlrOffer, xdOffer, dpkOffer, sysInputs]

end

end Sys2Proof.WireLaws
end

section
/-! The statements on the round-robin order of the Crossbar's grant. -/

namespace Sys2Proof.CrossbarLaws

open Sys2Proof.Machine

/-! ### The search for the next grant (R240) -/

section
variable {s : State} {g : Nat}

/-- The search, on the steps from `g` instead of the ports. -/
theorem nextGrant_eq : nextGrant s g =
    (((List.range (s.cfg.nPorts - 1)).find? fun k => outValid s ((g + 1 + k) % s.cfg.nPorts)).map
      fun k => (g + 1 + k) % s.cfg.nPorts).getD g := by
  rw [nextGrant, portsAfter, List.find?_map]
  rfl

/-- The search passes the ports other than `g`. -/
theorem mem_portsAfter {n j : Nat} (h : j ∈ portsAfter n g) : j < n ∧ j ≠ g := by
  obtain ⟨k, hk, rfl⟩ := List.mem_map.1 h
  have hkn : k < n - 1 := List.mem_range.1 hk
  have hlt : (g + 1 + k) % n < n := Nat.mod_lt _ (by omega)
  refine ⟨hlt, fun hg => ?_⟩
  have hgn : g < n := lt_of_eq_of_lt hg.symm hlt
  rw [Nat.add_assoc, Nat.add_mod_eq_ite, Nat.mod_eq_of_lt hgn,
    Nat.mod_eq_of_lt (a := 1 + k) (by omega)] at hg
  split at hg <;> omega

/-- Where no other port requests, the grant has nowhere to go. -/
theorem nextGrant_of_not_otherRequests (h : otherRequests s = false) :
    nextGrant s s.xbar.grant = s.xbar.grant := by
  have hnone : (portsAfter s.cfg.nPorts s.xbar.grant).find? (outValid s) = none := by
    refine List.find?_eq_none.2 fun j hj hv => ?_
    obtain ⟨hlt, hne⟩ := mem_portsAfter hj
    have hother : otherRequests s = true :=
      List.any_eq_true.2 ⟨j, List.mem_range.2 hlt, by simp [hne, hv]⟩
    exact Bool.false_ne_true (h.symm.trans hother)
  simp [nextGrant, hnone]

end

/-- Settles O43: the search of `nextGrant_eq` stops at the first step whose port offers a word. -/
theorem roundRobinNextGrant : Obligations.RoundRobinNextGrant := by
  intro s g hg n
  have hstep : ∀ m, 1 ≤ m → g + 1 + (m - 1) = g + m := fun m hm => by omega
  cases hf : (List.range (n - 1)).find? fun k => outValid s ((g + 1 + k) % n) with
  | none =>
    refine .inr ⟨by rw [nextGrant_eq, hf]; rfl, fun m h1 hm => ?_⟩
    have hfree := List.find?_range_eq_none.1 hf (m - 1) (by omega)
    rw [hstep m h1] at hfree
    exact (Bool.not_eq_true' _).mp hfree
  | some k =>
    obtain ⟨hvalid, hk, hfirst⟩ := List.find?_range_eq_some.1 hf
    have hk : k < n - 1 := List.mem_range.1 hk
    rw [Nat.add_right_comm, Nat.add_assoc] at hvalid
    refine .inl ⟨k + 1, by omega, by omega, ?_, hvalid, fun m h1 hm => ?_⟩
    · rw [nextGrant_eq, hf, ← Nat.add_assoc, Nat.add_right_comm]
      rfl
    · have hfree := hfirst (m - 1) (by omega)
      rw [hstep m h1] at hfree
      exact (Bool.not_eq_true' _).mp hfree

/-! ### Cyclic distance -/

section
variable {n g p : Nat}

/-- From `g` the cyclic distance to `p` leads to `p`. -/
theorem add_distance_mod (hg : g < n) (hp : p < n) : (g + (p + n - g) % n) % n = p := by
  rw [Nat.add_mod_mod, show g + (p + n - g) = p + n by omega, Nat.add_mod_right,
    Nat.mod_eq_of_lt hp]

/-- A number of steps below `n` that lead from `g` to `p` is the cyclic distance. -/
theorem distance_eq {d : Nat} (hg : g < n) (hd : d < n) (h : (g + d) % n = p) :
    (p + n - g) % n = d := by
  rw [Nat.add_mod_eq_ite, Nat.mod_eq_of_lt hg, Nat.mod_eq_of_lt hd] at h
  split at h
  · rw [show p + n - g = d by omega, Nat.mod_eq_of_lt hd]
  · rw [show p + n - g = d + n by omega, Nat.add_mod_right, Nat.mod_eq_of_lt hd]

/-- Steps on the way to `p` come off the cyclic distance. -/
theorem distance_add (hg : g < n) (hp : p < n) {k : Nat} (hk : k ≤ (p + n - g) % n) :
    (p + n - (g + k) % n) % n = (p + n - g) % n - k := by
  have hd : (p + n - g) % n < n := Nat.mod_lt _ (by omega)
  refine distance_eq (Nat.mod_lt _ (by omega)) (by omega) ?_
  rw [Nat.mod_add_mod, Nat.add_assoc, Nat.add_sub_cancel' hk, add_distance_mod hg hp]

end

/-- Settles O45: the grant goes some steps along the cyclic order, and no further than the port that
waits, which is the first to offer a word or comes after it. -/
theorem grantApproachesWaitingPort : Obligations.GrantApproachesWaitingPort := by
  intro s g p hg hp hne hwaits n
  refine ⟨nextGrant_lt hg, ?_⟩
  have hreach : (g + (p + n - g) % n) % n = p := add_distance_mod hg hp
  have hd : (p + n - g) % n < n := Nat.mod_lt _ (by omega)
  have hpos : 1 ≤ (p + n - g) % n := by
    refine Nat.pos_of_ne_zero fun h0 => hne ?_
    rw [← hreach, h0, Nat.add_zero, Nat.mod_eq_of_lt hg]
  have hfound : (portChan s.sy.outPorts ((g + (p + n - g) % n) % n)).valid = true := by
    rwa [hreach]
  rcases roundRobinNextGrant s g hg with ⟨k, h1, -, hgrant, -, hfirst⟩ | ⟨-, hnone⟩
  · have hk : k ≤ (p + n - g) % n :=
      Nat.le_of_not_lt fun hlt => Bool.false_ne_true ((hfirst _ hpos hlt).symm.trans hfound)
    rw [hgrant, distance_add hg hp hk]
    exact Nat.sub_lt hpos h1
  · exact absurd ((hnone _ hpos hd).symm.trans hfound) Bool.false_ne_true

end Sys2Proof.CrossbarLaws
end

section
/-! The statements on the operations and on the outputs of the Crossbar's arbiter half. -/

namespace Sys2Proof.CrossbarLaws

open Sys2Proof.Machine Sys2Proof.WireLaws

/-! ### The output rule (R238) -/

section
variable (s : State) (w : SysWires)

/-- The arbiter half wires the granted port through to `m_tx`; the payload of a grant that is no
port is free. -/
theorem mTx_driven :
    (xaAccept s (xaOffer s w)).mTx.valid = (portChan w.outPorts s.xbar.grant).valid ∧
    (xaAccept s (xaOffer s w)).mTx.ready = w.mTx.ready ∧
    (xaAccept s (xaOffer s w)).mTx.xfer = w.mTx.xfer ∧
    (s.xbar.grant < w.outPorts.length →
      (xaAccept s (xaOffer s w)).mTx.pay = (portChan w.outPorts s.xbar.grant).pay) := by
  simp only [xaAccept, xaOffer, portChan_eq]
  cases hg : w.outPorts[s.xbar.grant]? with
  | none =>
    exact ⟨rfl, rfl, rfl, fun h => absurd h (Nat.not_lt.2 (List.getElem?_eq_none_iff.1 hg))⟩
  | some o => exact ⟨rfl, rfl, rfl, fun _ => rfl⟩

theorem outPorts_length_driven :
    (xaAccept s (xaOffer s w)).outPorts.length = w.outPorts.length := by
  simp [xaAccept, xaOffer]

theorem portChan_outPorts_driven {k : Nat} (h : k < w.outPorts.length) :
    portChan (xaAccept s (xaOffer s w)).outPorts k =
      accept (k == s.xbar.grant && w.mTx.ready) (portChan w.outPorts k) := by
  obtain ⟨-, hready, -⟩ := mTx_driven s w
  have hports : (xaOffer s w).outPorts[k]? = some w.outPorts[k] := List.getElem?_eq_getElem h
  rw [← hready, portChan_eq, portChan_eq, xaAccept, List.getElem?_mapIdx, hports,
    List.getElem?_eq_getElem h]
  rfl

/-- Every port but the granted one is held off. -/
theorem outPorts_ready_driven_of_ne {k : Nat} (hne : k ≠ s.xbar.grant) :
    (portChan (xaAccept s (xaOffer s w)).outPorts k).ready = false := by
  rcases Nat.lt_or_ge k w.outPorts.length with hk | hk
  · rw [portChan_outPorts_driven s w hk, beq_false_of_ne hne]
    rfl
  · rw [portChan_of_length_le (by rwa [outPorts_length_driven])]
    rfl

/-- Of an `out` channel only the `ready` is driven. -/
theorem portChan_outPorts_driven_eq (k : Nat) :
    portChan (xaAccept s (xaOffer s w)).outPorts k = { portChan w.outPorts k with
      ready := (portChan (xaAccept s (xaOffer s w)).outPorts k).ready } := by
  rcases Nat.lt_or_ge k w.outPorts.length with hk | hk
  · rw [portChan_outPorts_driven s w hk]
    rfl
  · rw [portChan_of_length_le (by rwa [outPorts_length_driven]), portChan_of_length_le hk]

section
variable {s w}

/-- A grant that is a port has the payload and the `ready` of `m_tx`. -/
theorem granted_driven (h : s.xbar.grant < w.outPorts.length) :
    (xaAccept s (xaOffer s w)).mTx.pay = (portChan w.outPorts s.xbar.grant).pay ∧
    (portChan (xaAccept s (xaOffer s w)).outPorts s.xbar.grant).ready = w.mTx.ready := by
  obtain ⟨-, -, -, hpay⟩ := mTx_driven s w
  rw [portChan_outPorts_driven s w h, beq_self_eq_true]
  exact ⟨hpay h, rfl⟩

/-- A word that the granted port offers and `m_tx` takes is transferred on both. -/
theorem transfers_driven (hv : (portChan w.outPorts s.xbar.grant).valid = true)
    (hr : w.mTx.ready = true) :
    transfers (portChan (xaAccept s (xaOffer s w)).outPorts s.xbar.grant) = true ∧
    transfers (xaAccept s (xaOffer s w)).mTx = true ∧
    (xaAccept s (xaOffer s w)).mTx.pay = (portChan w.outPorts s.xbar.grant).pay := by
  have hlt := lt_length_of_portChan_valid hv
  obtain ⟨hvalid, hready, -, hpay⟩ := mTx_driven s w
  rw [portChan_outPorts_driven s w hlt, beq_self_eq_true]
  simp [transfers, accept, hvalid, hready, hv, hr, hpay hlt]

end

end

/-- Settles O37: driving the arbiter's outputs again leaves the settled wires as they are, so its
output rule holds of them. -/
theorem arbiterOutputs : Obligations.ArbiterOutputs := by
  intro s i hrst hgrant w g
  have hsettled : SysSettled s w := settledWiresAreAFixedPoint.1 s i hrst
  have ⟨_, _, _, _, hxa, _⟩ := hsettled
  have hlt : s.xbar.grant < w.outPorts.length := by rwa [outPorts_length_settleSys hrst]
  obtain ⟨hpay, hready⟩ := hxa ▸ granted_driven hlt
  exact ⟨mTx_valid_eq hsettled, hpay, hready, fun k hk => hxa ▸ outPorts_ready_driven_of_ne s w hk⟩

/-! ### The rows of the operation map -/

section
variable {s : State}

theorem selects_no_request (hv : outValid s s.xbar.grant = false) (hk : s.xbar.locked = false) :
    selects s .xa = .ok (
      let l := (portChan s.sy.outPorts s.xbar.grant).pay.last
      if otherRequests s then .xaSwitchIdle l s.sy.mTx.ready else .xaPark l s.sy.mTx.ready) := by
  simp [selects_xa, hv, hk]

theorem selects_wait (hv : outValid s s.xbar.grant = false) (hk : s.xbar.locked = true) :
    selects s .xa = .ok (.xaWait (portChan s.sy.outPorts s.xbar.grant).pay.last s.sy.mTx.ready
      (otherRequests s)) := by
  simp [selects_xa, hv, hk]

theorem selects_stall (hv : outValid s s.xbar.grant = true) (hr : s.sy.mTx.ready = false) :
    selects s .xa = .ok (.xaStall (portChan s.sy.outPorts s.xbar.grant).pay.last
      (otherRequests s)) := by
  simp [selects_xa, hv, hr]

theorem selects_word (hv : outValid s s.xbar.grant = true) (hr : s.sy.mTx.ready = true) :
    selects s .xa = .ok (
      if (portChan s.sy.outPorts s.xbar.grant).pay.last then
        if otherRequests s then .xaEndSwitch else .xaEndPark
      else .xaXfer (otherRequests s)) := by
  simp [selects_xa, hv, hr]

end

/-- Settles O19: the requests, the granted port's word and `m_tx.ready` select the row, and every
row drives the outputs of R238 and writes `xbar`. -/
theorem arbiterOperations : Obligations.ArbiterOperations := by
  intro s w g o l r req other moved go moves
  obtain ⟨hvalid, hmReady, hmXfer, -⟩ := mTx_driven s s.sy
  have hmoves : g.valid = true → r = true → moves := transfers_driven
  refine ⟨⟨rfl, hvalid, hmReady, hmXfer, granted_driven,
      outPorts_length_driven s s.sy, fun _ => outPorts_ready_driven_of_ne s s.sy,
      portChan_outPorts_driven_eq s s.sy⟩,
    fun hreq ho => ?park, fun hreq ho => ?switchIdle, fun hk hv => ?wait, fun hv hr => ?stall,
    fun hv hl hr => ?xfer, fun hv hl hr ho => ?endPark, fun hv hl hr ho => ?endSwitch⟩
  case park | switchIdle =>
    obtain ⟨hv, hk⟩ := Bool.or_eq_false_iff.1 hreq
    refine ⟨?_, hvalid.trans hv, fun _ _ => rfl⟩
    rw [selects_no_request hv hk, show otherRequests s = _ from ho]
    rfl
  case wait => exact ⟨selects_wait hv hk, hvalid.trans hv, fun _ _ _ => rfl⟩
  case stall =>
    obtain ⟨hgpay, hready⟩ := granted_driven (lt_length_of_portChan_valid hv)
    exact ⟨selects_stall hv hr, hvalid.trans hv, hgpay, hready.trans hr, fun _ _ => rfl⟩
  case xfer =>
    refine ⟨?_, hmoves hv hr, fun _ => rfl⟩
    rw [selects_word hv hr, show (portChan s.sy.outPorts s.xbar.grant).pay.last = _ from hl]
    rfl
  case endPark | endSwitch =>
    refine ⟨?_, hmoves hv hr, rfl⟩
    rw [selects_word hv hr, show (portChan s.sy.outPorts s.xbar.grant).pay.last = _ from hl,
      show otherRequests s = _ from ho]
    rfl

/-! ### The operation as the pure next-state function -/

section
variable (s : State)

theorem nextXbar_grant : (nextXbar s.cfg s.xbar s.sy).grant =
    if (!outValid s s.xbar.grant && !s.xbar.locked) || (outValid s s.xbar.grant &&
        (portChan s.sy.outPorts s.xbar.grant).pay.last && s.sy.mTx.ready) then
      nextGrant s s.xbar.grant
    else s.xbar.grant := rfl

theorem nextXbar_locked : (nextXbar s.cfg s.xbar s.sy).locked =
    if outValid s s.xbar.grant && s.sy.mTx.ready then
      !(portChan s.sy.outPorts s.xbar.grant).pay.last
    else s.xbar.locked := rfl

/-- Whatever row is selected, its operation drives the outputs and writes the grant and the lock of
`nextXbar`: where no other port requests, a grant that parks is one that moves to itself. -/
theorem exec_selected_xa : ∃ i x, selects s .xa = .ok i ∧
    exec i s = .next ((driveXa s).setXbar x) ∧
    x.grant = (nextXbar s.cfg s.xbar s.sy).grant ∧
    x.locked = (nextXbar s.cfg s.xbar s.sy).locked ∧
    x.unroutedCount = s.xbar.unroutedCount := by
  rw [nextXbar_grant, nextXbar_locked]
  cases hv : outValid s s.xbar.grant with
  | false =>
    cases hk : s.xbar.locked with
    | false =>
      rw [selects_no_request hv hk]
      cases ho : otherRequests s with
      | false =>
        exact ⟨_, s.xbar, rfl, rfl, (nextGrant_of_not_otherRequests ho).symm, hk, rfl⟩
      | true => exact ⟨_, _, rfl, rfl, rfl, hk, rfl⟩
    | true => exact ⟨_, s.xbar, selects_wait hv hk, rfl, rfl, hk, rfl⟩
  | true =>
    cases hr : s.sy.mTx.ready with
    | false => exact ⟨_, s.xbar, selects_stall hv hr, rfl, by simp, rfl, rfl⟩
    | true =>
      rw [selects_word hv hr]
      cases hl : (portChan s.sy.outPorts s.xbar.grant).pay.last with
      | false => exact ⟨_, _, rfl, rfl, by simp, rfl, rfl⟩
      | true =>
        cases ho : otherRequests s with
        | false =>
          exact ⟨_, _, rfl, rfl, by simp [nextGrant_of_not_otherRequests ho], rfl, rfl⟩
        | true => exact ⟨_, _, rfl, rfl, by simp, rfl, rfl⟩

end

/-- Settles O44: the operation writes the grant and the lock of `nextXbar`, which move as stated. -/
theorem packetsAreNotInterleaved : Obligations.PacketsAreNotInterleaved := by
  intro s t i hi ht g
  obtain ⟨j, x, hj, hexec, hgrant, hlocked, -⟩ := exec_selected_xa s
  obtain rfl : i = j := Except.ok.inj (hi.symm.trans hj)
  obtain rfl : t = _ := Host.Outcome.next.inj (ht.symm.trans hexec)
  refine ⟨fun hmoved => ?_, hlocked⟩
  have hmoves : (!g.valid && !s.xbar.locked || g.valid && g.pay.last && s.sy.mTx.ready) = true :=
    of_not_not fun hstays => hmoved (hgrant.trans (if_neg hstays))
  simpa [and_assoc] using hmoves

end Sys2Proof.CrossbarLaws
end

section
/-! The statements on the operations and on the outputs of the Crossbar's dispatch half, and on the
port that a word reaches. -/

namespace Sys2Proof.CrossbarLaws

open Sys2Proof.Machine Sys2Proof.WireLaws

/-! ### The port of a tag (R231) -/

section
variable {c : Cfg} {dst : Tag}

/-- Where tags are unique, the port with a tag is the one that is hit. -/
theorem hitPort_of_tag {j : Nat} (hnodup : c.tags.Nodup) (hj : c.tags[j]? = some dst) :
    hitPort c dst = some j := by
  obtain ⟨hlt, htag⟩ := List.getElem?_eq_some_iff.1 hj
  refine List.findIdx?_eq_some_iff_getElem.2 ⟨hlt, beq_iff_eq.2 htag, fun k hk heq => ?_⟩
  exact hk.ne (hnodup.getElem_inj_iff.1 ((beq_iff_eq.1 heq).trans htag.symm))

theorem hitPort_eq_none_iff : hitPort c dst = none ↔ dst ∉ c.tags := by
  simp only [hitPort, List.findIdx?_eq_none_iff, beq_eq_false_iff_ne]
  exact ⟨fun h hmem => h dst hmem rfl, fun h t ht heq => h (heq ▸ ht)⟩

theorem hitPort_isNone : (hitPort c dst).isNone = decide (dst ∉ c.tags) :=
  Bool.eq_iff_iff.2 (by simp [hitPort_eq_none_iff])

end

/-! ### The output rule (R232) -/

section
variable {s : State} {w : SysWires} {k : Nat} {t : Tag}

theorem inPorts_length_driven (h : w.inPorts.length = s.cfg.nPorts) :
    (xdAccept s (xdOffer s w)).inPorts.length = s.cfg.nPorts := by
  simp [xdAccept, xdOffer, h, Cfg.nPorts]

/-- Every port is offered the word of `m_rx`, as valid only if its tag is the word's. -/
theorem portChan_inPorts_driven (ht : s.cfg.tags[k]? = some t) (hk : k < w.inPorts.length) :
    let p := portChan (xdAccept s (xdOffer s w)).inPorts k
    p.valid = (w.dpkSource.valid && w.dpkSource.pay.dst == t) ∧ p.pay = w.dpkSource.pay ∧
      p.ready = (portChan w.inPorts k).ready := by
  simp [portChan_eq, xdAccept, xdOffer, List.getElem?_zipWith, ht, hk, offer]

/-- A port that is offered a word as valid is the port of its tag. -/
theorem tag_of_inPorts_valid
    (h : (portChan (xdAccept s (xdOffer s w)).inPorts k).valid = true) :
    w.dpkSource.valid = true ∧ s.cfg.tags[k]? = some w.dpkSource.pay.dst := by
  have hk := lt_length_of_portChan_valid h
  rw [xdAccept, xdOffer, List.length_zipWith, Nat.lt_min] at hk
  obtain ⟨hktags, hkports⟩ := hk
  have ht := List.getElem?_eq_getElem hktags
  obtain ⟨hoffered, -⟩ := portChan_inPorts_driven ht hkports
  obtain ⟨hvalid, hdst⟩ := Bool.and_eq_true_iff.1 (hoffered.symm.trans h)
  exact ⟨hvalid, ht.trans (congrArg some (beq_iff_eq.1 hdst).symm)⟩

/-- No port but that of its tag is offered the word as valid. -/
theorem inPorts_not_valid
    (h : w.dpkSource.valid = true → s.cfg.tags[k]? ≠ some w.dpkSource.pay.dst) :
    (portChan (xdAccept s (xdOffer s w)).inPorts k).valid = false :=
  Bool.eq_false_iff.2 fun hv => (tag_of_inPorts_valid hv).elim h

/-- A word for a port is taken when that port takes it. -/
theorem dpkSource_ready_of_tag (hnodup : s.cfg.tags.Nodup)
    (ht : s.cfg.tags[k]? = some w.dpkSource.pay.dst) :
    (xdAccept s (xdOffer s w)).dpkSource.ready = (portChan w.inPorts k).ready := by
  have hready : (xdAccept s (xdOffer s w)).dpkSource.ready =
      (portChan (xdOffer s w).inPorts k).ready := by
    simp [xdAccept, xdOffer, accept, hitPort_of_tag hnodup ht]
  rw [hready, portChan_eq, portChan_eq]
  simp only [xdOffer, List.getElem?_zipWith, ht]
  cases w.inPorts[k]? <;> rfl

/-- A word for no port is taken at once. -/
theorem dpkSource_ready_of_no_tag (h : w.dpkSource.pay.dst ∉ s.cfg.tags) :
    (xdAccept s (xdOffer s w)).dpkSource.ready = true := by
  simp [xdAccept, xdOffer, accept, hitPort_eq_none_iff.2 h]

theorem unroutedEvt_driven : (xdAccept s (xdOffer s w)).unroutedEvt =
    (w.dpkSource.valid && decide (w.dpkSource.pay.dst ∉ s.cfg.tags) && w.dpkSource.pay.last) := by
  rw [← hitPort_isNone]
  rfl

end

/-! ### The settled wires of a system tick -/

section
variable {s : State} {i : SysIn}

theorem driveXd_settleSys (h : i.rst = false) :
    xdAccept s (xdOffer s (settleSys s i)) = settleSys s i :=
  (settledWiresAreAFixedPoint.1 s i h).2.1

/-- A port without the tag of the word on `m_rx` is offered nothing as valid. -/
theorem inPorts_not_valid_settleSys (h : i.rst = false) {k : Nat}
    (hk : s.cfg.tags[k]? ≠ some (settleSys s i).dpkSource.pay.dst) :
    (portChan (settleSys s i).inPorts k).valid = false := by
  rw [← driveXd_settleSys h]
  exact inPorts_not_valid fun _ => hk

end

/-- Settles O36: driving the dispatch outputs again leaves the settled wires as they are, so their
rule holds of them. -/
theorem dispatchOutputs : Obligations.DispatchOutputs := by
  intro s i hrst hnodup w m
  have hxd : xdAccept s (xdOffer s w) = w := driveXd_settleSys hrst
  have hready : m.ready = (xdAccept s (xdOffer s w)).dpkSource.ready := by rw [hxd]
  have hpulse : w.unroutedEvt = _ := hxd ▸ unroutedEvt_driven (s := s) (w := w)
  refine ⟨fun k t ht => ?_, fun hnone => hready.trans (dpkSource_ready_of_no_tag hnone), hpulse⟩
  have hlt : k < w.inPorts.length :=
    (inPorts_length_settleSys hrst).symm ▸ (List.getElem?_eq_some_iff.1 ht).1
  obtain ⟨hvalid, hpay, -⟩ := hxd ▸ portChan_inPorts_driven ht hlt
  exact ⟨hvalid, hpay, fun hdst => hready.trans (dpkSource_ready_of_tag hnodup (hdst ▸ ht))⟩

/-- Settles O41: a port that transfers is offered a valid word, so it is the port of the word's tag,
with whose `ready` the word on `m_rx` moves. -/
theorem routingCorrectness : Obligations.RoutingCorrectness := by
  intro s i hrst hnodup w
  obtain ⟨hports, -, -⟩ := dispatchOutputs s i hrst hnodup
  have hnot : ∀ k, s.cfg.tags[k]? ≠ some w.dpkSource.pay.dst →
      transfers (portChan w.inPorts k) = false := fun k hk => by
    rw [transfers, inPorts_not_valid_settleSys hrst hk, Bool.false_and]
  refine ⟨fun k t ht => ?_, fun hnone k => hnot k fun hk => hnone (List.mem_of_getElem? hk)⟩
  obtain ⟨hvalid, hpay, hready⟩ := hports k t ht
  refine ⟨fun hmoves => ?_, fun hdst => ⟨?_, fun j hj => hnot j fun htag => hj ?_⟩⟩
  · by_contra hne
    refine Bool.false_ne_true ((hnot k fun htag => hne ?_).symm.trans hmoves)
    rw [hpay]
    exact (Option.some.inj (ht.symm.trans htag)).symm
  · rw [transfers, transfers, hready hdst, hvalid, hdst, beq_self_eq_true, Bool.and_true]
  · refine (List.getElem?_inj (List.getElem?_eq_some_iff.1 htag).1 hnodup).1 ?_
    rw [htag, ht, hdst]

/-! ### The rows of the operation map -/

section
variable {s : State}

theorem selects_no_word (hv : s.sy.dpkSource.valid = false) :
    selects s .xd = .ok (.xdIdle (!noHit s) s.sy.dpkSource.pay.last (hitReady s)) := by
  simp [selects_xd, hv]

theorem selects_route {j : Nat} (hv : s.sy.dpkSource.valid = true) (hnodup : s.cfg.tags.Nodup)
    (hj : s.cfg.tags[j]? = some s.sy.dpkSource.pay.dst) :
    selects s .xd = .ok (if (portChan s.sy.inPorts j).ready then
        .xdRouteXfer s.sy.dpkSource.pay.last
      else .xdRouteStall s.sy.dpkSource.pay.last) := by
  simp [selects_xd, hv, noHit, hitReady, hitPort_of_tag hnodup hj]

theorem selects_drop (hv : s.sy.dpkSource.valid = true)
    (hnone : s.sy.dpkSource.pay.dst ∉ s.cfg.tags) :
    selects s .xd = .ok (if s.sy.dpkSource.pay.last then .xdDropLast (hitReady s)
      else .xdDropWord (hitReady s)) := by
  simp [selects_xd, hv, noHit, hitPort_isNone, hnone]

end

/-- Settles O18: the word on `m_rx` and the port of its tag select the row, and every row drives the
outputs of R232; XD.DROP_LAST raises cause 3 on top. -/
theorem dispatchOperations : Obligations.DispatchOperations := by
  intro s hnodup hlen w m l go
  have htransfers : ∀ {r}, m.valid = true → w.dpkSource.ready = r → transfers w.dpkSource = r :=
    fun hv hr => by rw [transfers, show w.dpkSource.valid = true from hv, hr, Bool.true_and]
  have hevt : w.unroutedEvt = (m.valid && decide (m.pay.dst ∉ s.cfg.tags) && l) :=
    unroutedEvt_driven
  refine ⟨⟨rfl, inPorts_length_driven hlen, fun k hk => ?offer⟩, fun hv => ?idle,
    fun j hv hj => ?route, fun hv hnone => ?drop⟩
  case offer =>
    obtain ⟨-, hpay, hready⟩ :=
      portChan_inPorts_driven (List.getElem?_eq_getElem hk) (w := s.sy) (hlen ▸ hk)
    exact ⟨hpay, hready⟩
  case idle =>
    exact ⟨⟨_, _, selects_no_word hv⟩, fun k => inPorts_not_valid fun h => absurd (hv.symm.trans h)
      Bool.false_ne_true, by rw [hevt, hv]; rfl, fun _ _ _ => rfl⟩
  case route =>
    have hjlt : j < s.cfg.nPorts := (List.getElem?_eq_some_iff.1 hj).1
    obtain ⟨hoffered, -, hportReady⟩ := portChan_inPorts_driven hj (hlen ▸ hjlt)
    have hvalid : (portChan w.inPorts j).valid = true := by
      rw [hoffered, beq_self_eq_true, Bool.and_true]
      exact hv
    have hready : w.dpkSource.ready = (portChan s.sy.inPorts j).ready :=
      dpkSource_ready_of_tag hnodup hj
    refine ⟨hvalid, fun k hk => inPorts_not_valid fun _ hktag => hk ?unique, hready, ?noPulse,
      fun hr => ⟨?stall, htransfers hv (hready.trans hr), fun _ => rfl⟩,
      fun hr => ⟨?xfer, htransfers hv (hready.trans hr), ?moves, fun _ => rfl⟩⟩
    case unique =>
      exact (List.getElem?_inj (List.getElem?_eq_some_iff.1 hktag).1 hnodup).1 (hktag.trans hj.symm)
    case noPulse =>
      rw [hevt, decide_eq_false (not_not.2 (List.mem_of_getElem? hj)), Bool.and_false,
        Bool.false_and]
    case stall | xfer =>
      rw [selects_route hv hnodup hj, hr]
      rfl
    case moves => rw [transfers, hvalid, hportReady, hr, Bool.true_and]
  case drop =>
    have hready : w.dpkSource.ready = true := dpkSource_ready_of_no_tag hnone
    refine ⟨fun k => inPorts_not_valid fun _ hk => hnone (List.mem_of_getElem? hk), hready,
      htransfers hv hready, by rw [hevt, hv, decide_eq_true hnone]; rfl,
      fun hl => ⟨⟨hitReady s, ?word⟩, fun _ => rfl⟩,
      fun hl => ⟨⟨hitReady s, ?last⟩, fun _ => rfl⟩⟩
    case word | last =>
      rw [selects_drop hv hnone, show s.sy.dpkSource.pay.last = _ from hl]
      rfl

end Sys2Proof.CrossbarLaws
end

section
/-! The statements on the operations and on the outputs of the TLP Sender. -/

namespace Sys2Proof.SenderLaws

open Sys2Proof.Machine Sys2Proof.WireLaws

/-! ### The output rule (R264) -/

section
variable {s : State} {w : SysWires}

/-- The TLP Sender accepts lanes in `FILL` alone. -/
theorem tlpTxIn_ready_driven (s : State) (w : SysWires) :
    (tlsAccept s (tlsOffer s w)).tlpTxIn.ready = (s.tls.st == .fill) := rfl

/-- `FILL` offers no word. -/
theorem out_driven_of_fill (hport : s.cfg.tlpPort < w.outPorts.length) (hst : s.tls.st = .fill) :
    portChan (tlsAccept s (tlsOffer s w)).outPorts s.cfg.tlpPort =
      offer false (Config.idleUp (.outPort s.cfg.tlpPort) s.now)
        (portChan w.outPorts s.cfg.tlpPort) := by
  simp only [tlsAccept, tlsOffer, portChan_modify_self _ hport, hst]

/-- `SEND` offers the word of the head lane in every tick. -/
theorem out_driven_of_send (hport : s.cfg.tlpPort < w.outPorts.length) (hst : s.tls.st = .send) :
    portChan (tlsAccept s (tlsOffer s w)).outPorts s.cfg.tlpPort =
      offer true (tlsWord s) (portChan w.outPorts s.cfg.tlpPort) := by
  simp only [tlsAccept, tlsOffer, portChan_modify_self _ hport, hst]

theorem tlsWord_data {hd : LaneEntry} {rest : List LaneEntry} (hq : s.tls.q = hd :: rest) :
    (tlsWord s).data = if s.tls.half then upperHalf hd.data else lowerHalf hd.data := by
  simp only [tlsWord, headLane, hq, List.headD_cons]

/-- `tls.lastw` as R263 writes it. -/
theorem tlsLastWord_eq (h : 1 ≤ s.tls.wcount) :
    tlsLastWord s = (s.tls.sent == s.tls.wcount - 1) := by
  rw [tlsLastWord, Bool.eq_iff_iff, beq_iff_eq, beq_iff_eq]
  omega

theorem tlsLength_of_lt {n : Nat} (h : n < 2 ^ 32) : tlsLength n = BitVec.ofNat 32 (max n 1) :=
  if_pos h

theorem tlsLength_of_pos {n : Nat} (hpos : 1 ≤ n) (h : n < 2 ^ 32) :
    tlsLength n = BitVec.ofNat 32 n := by
  rw [tlsLength_of_lt h, Nat.max_eq_left hpos]

end

theorem driveTls_settleSys {s : State} {i : SysIn} (h : i.rst = false) :
    tlsAccept s (tlsOffer s (settleSys s i)) = settleSys s i :=
  let ⟨_, _, _, htls, _⟩ := settledWiresAreAFixedPoint.1 s i h
  htls

/-- Settles O39: driving the TLP Sender's outputs again leaves the settled wires as they are, so the
output rule of its state holds of them. -/
theorem senderOutputs : Obligations.SenderOutputs := by
  intro s i hrst hport w out
  have htls : tlsAccept s (tlsOffer s w) = w := driveTls_settleSys hrst
  have hlt : s.cfg.tlpPort < w.outPorts.length := by rwa [outPorts_length_settleSys hrst]
  have hready : w.tlpTxIn.ready = (s.tls.st == .fill) := htls ▸ tlpTxIn_ready_driven s w
  refine ⟨fun hst => ?fill, fun hst => ?send⟩
  case fill =>
    have hout : out = _ := htls ▸ out_driven_of_fill hlt hst
    exact ⟨by rw [hready, hst]; rfl, by rw [hout]; rfl⟩
  case send =>
    have hout : out = _ := htls ▸ out_driven_of_send hlt hst
    rw [hout]
    exact ⟨by rw [hready, hst]; rfl, rfl, rfl, tlsLength_of_lt, tlsLastWord_eq,
      fun _ _ => tlsWord_data⟩

/-! ### The rows of the operation map -/

section
variable {s : State}

theorem selects_fill_of_no_lane (hst : s.tls.st = .fill) (hv : s.sy.tlpTxIn.valid = false) :
    selects s .tls = .ok (.tlsFillWait s.sy.tlpTxIn.pay.last (fillsQueue s) s.tls.half
      (headHasUpper s) (tlsLastWord s) (portChan s.sy.outPorts s.cfg.tlpPort).ready) := by
  rw [selects_tls s (by simp [hst])]
  simp only [hst, hv, Bool.false_eq_true, if_false]

/-- A lane closes the record if it is the last one, or else if it fills `tls.q` (R267 to R269). -/
theorem selects_fill (hst : s.tls.st = .fill) (hv : s.sy.tlpTxIn.valid = true) :
    selects s .tls = .ok (
      let r := (portChan s.sy.outPorts s.cfg.tlpPort).ready
      if s.sy.tlpTxIn.pay.last then
        .tlsFillCloseLast (fillsQueue s) s.tls.half (headHasUpper s) (tlsLastWord s) r
      else if fillsQueue s then .tlsFillCloseFull s.tls.half (headHasUpper s) (tlsLastWord s) r
      else .tlsFillPush s.tls.half (headHasUpper s) (tlsLastWord s) r) := by
  rw [selects_tls s (by simp [hst])]
  simp only [hst, hv, if_true]

section
variable {depth : Nat} (hst : s.tls.st = .send) (hinv : TlsInv depth s.tls)
include hst hinv

theorem selects_send_stalled (hr : (portChan s.sy.outPorts s.cfg.tlpPort).ready = false) :
    selects s .tls = .ok (.tlsSendStall s.sy.tlpTxIn.valid s.sy.tlpTxIn.pay.last (fillsQueue s)
      s.tls.half (headHasUpper s) (tlsLastWord s)) := by
  rw [selects_tls s (EventLaws.TlsInv.lastWord_eq_false hinv)]
  simp only [hst, hr, Bool.false_eq_true, if_false]

/-- A word that is taken is the packet's final one, or an upper half, or a lower half with or
without an upper one (R271 to R274). -/
theorem selects_send (hr : (portChan s.sy.outPorts s.cfg.tlpPort).ready = true) :
    selects s .tls = .ok (
      let v := s.sy.tlpTxIn.valid
      let l := s.sy.tlpTxIn.pay.last
      let f := fillsQueue s
      if tlsLastWord s then .tlsSendLast v l f s.tls.half (headHasUpper s)
      else if s.tls.half then .tlsSendHighPop v l f (headHasUpper s)
      else if headHasUpper s then .tlsSendLowMore v l f else .tlsSendLowPop v l f) := by
  rw [selects_tls s (EventLaws.TlsInv.lastWord_eq_false hinv)]
  simp only [hst, hr, if_true]

end

end

/-- Settles O20: `valid`, `last` and the room in `tls.q` select the row, and every row drives the
outputs of R264 and writes `tls`. -/
theorem senderFillOperations : Obligations.SenderFillOperations := by
  intro s hst w c l full h u x r q n
  refine ⟨?ready, fun hv => ?wait, fun hv hl hf => ?push, fun hv hl => ?closeLast,
    fun hv hl hf => ?closeFull⟩
  case ready => rw [show w.tlpTxIn.ready = _ from tlpTxIn_ready_driven s s.sy, hst]; rfl
  case wait => exact ⟨selects_fill_of_no_lane hst hv, fun _ _ _ _ _ _ => rfl⟩
  case push | closeFull =>
    refine ⟨?_, fun _ _ _ _ => rfl⟩
    rw [selects_fill hst hv, show s.sy.tlpTxIn.pay.last = _ from hl,
      show fillsQueue s = _ from hf]
    rfl
  case closeLast =>
    refine ⟨?_, fun _ _ _ _ _ => rfl⟩
    rw [selects_fill hst hv, show s.sy.tlpTxIn.pay.last = _ from hl]
    rfl

/-! ### The head lane (R263, R276) -/

section
variable {s : State} {hd : LaneEntry} {rest : List LaneEntry}

theorem headHasUpper_eq (hq : s.tls.q = hd :: rest) :
    headHasUpper s = (hd.be.extractLsb' 4 4 != 0) := by
  rw [headHasUpper_cons hq, laneWords]
  split
  case isTrue h => rw [h]; rfl
  case isFalse h => exact (bne_iff_ne.2 h).symm

/-- With the packet's final word the head lane leaves, and no lane is behind it. -/
theorem rest_eq_nil_of_lastWord {depth : Nat} (hst : s.tls.st = .send) (hq : s.tls.q = hd :: rest)
    (hinv : TlsInv depth s.tls) (hlast : tlsLastWord s = true) : rest = [] := by
  simp only [TlsInv, hst, hq, queuedWords, List.head?_cons, Option.map_some,
    Option.some.injEq] at hinv
  obtain ⟨-, -, hsum, hhalf, -⟩ := hinv
  have hsent : s.tls.sent + 1 = s.tls.wcount := beq_iff_eq.1 hlast
  have hlane := laneWords_cases hd.be
  by_contra hne
  have hpos := queuedWords_pos hne
  cases hh : s.tls.half with
  | false => simp only [hh, Bool.toNat_false] at hsum; omega
  | true => have := hhalf hh; simp only [hh, Bool.toNat_true] at hsum; omega

end

/-- Settles O21: `tls.lastw`, `tls.half`, `tls.uh` and the `ready` of `tls.out` select the row, and
every row drives the outputs of R264 and writes `tls`. -/
theorem senderSendOperations : Obligations.SenderSendOperations := by
  intro s hd rest hst hq hinv hport w out v l f h u x r
  have hout : out = _ := out_driven_of_send hport hst
  have hpos : 1 ≤ s.tls.wcount := by
    simp only [TlsInv, hst] at hinv
    obtain ⟨-, hpos, -⟩ := hinv
    exact hpos
  have hx : tlsLastWord s = x := tlsLastWord_eq hpos
  have hu : headHasUpper s = u := headHasUpper_eq hq
  have htail : s.tls.q.tail = rest := by rw [hq]; rfl
  refine ⟨⟨?ready, ?offered⟩, fun hh hup => ?notLast, fun hr => ?stall, fun hh hup hl hr => ?lowMore,
    fun hh hup hl hr => ?lowPop, fun hh hl hr => ?highPop, fun hl hr => ?last⟩
  case ready => rw [show w.tlpTxIn.ready = _ from tlpTxIn_ready_driven s s.sy, hst]; rfl
  case offered =>
    rw [hout]
    exact ⟨rfl, tlsWord_data hq, hx, rfl, tlsLength_of_pos hpos⟩
  case notLast =>
    rw [← hx]
    exact EventLaws.TlsInv.lastWord_eq_false hinv hst hh (hu.trans hup)
  case stall =>
    exact ⟨hx ▸ hu ▸ selects_send_stalled hst hinv hr, fun _ _ _ _ _ _ => rfl⟩
  case lowMore =>
    refine ⟨?_, fun _ _ _ => rfl⟩
    rw [selects_send hst hinv hr, hx, hl, hu, hup, show s.tls.half = _ from hh]
    rfl
  case lowPop =>
    refine ⟨?_, fun _ _ _ => by rw [← htail]; rfl⟩
    rw [selects_send hst hinv hr, hx, hl, hu, hup, show s.tls.half = _ from hh]
    rfl
  case highPop =>
    refine ⟨?_, fun _ _ _ _ => by rw [← htail]; rfl⟩
    rw [selects_send hst hinv hr, hx, hl, hu, show s.tls.half = _ from hh]
    rfl
  case last =>
    have hnil := rest_eq_nil_of_lastWord hst hq hinv (hx.trans hl)
    refine ⟨?_, hnil, fun _ _ _ _ _ => by rw [← hnil, ← htail]; rfl⟩
    rw [selects_send hst hinv hr, hx, hl, hu]
    rfl

end Sys2Proof.SenderLaws
end

section
/-! SUPPORT. The TLP Sender alone: one tick of `sendLanes` in each state, the words that a record in
`tls.q` leaves to send, and the run over a record. -/

namespace Sys2Proof.SenderLaws

open Sys2Proof.Machine Sys2Proof.EventLaws

/-! ### Packets and the TLP port -/

theorem upWords_cons (dst : Tag) (length : Word) (w : Word) (ws : List Word) :
    upWords dst length (w :: ws) = ⟨w, ws.isEmpty, dst, length⟩ :: upWords dst length ws := by
  cases ws <;> rfl

/-- A TLP tag that is registered has its port. -/
theorem tlpPort_lt {c : Cfg} (h : c.tlpTag ∈ c.tags) : c.tlpPort < c.nPorts :=
  List.idxOf_lt_length_of_mem h

theorem portChan_replicate {n k : Nat} (c : Chan UpWord) (h : k < n) :
    portChan (List.replicate n c) k = c := by
  simp [portChan_eq, h]

/-! ### One tick of `sendLanes` -/

/-- The state in which the TLP Sender's operation executes in a tick of `sendLanes`: the first of
the lanes is offered on `tlp_tx_in`, `tls.out` is ready. -/
def fedTls (ls : List Lane) (s : State) : State :=
  driveTls (s.setSy { s.sy with
    tlpTxIn := feedChan false ls
    outPorts := List.replicate s.cfg.nPorts (feedChan true []) })

@[simp] theorem fedTls_cfg (ls : List Lane) (s : State) : (fedTls ls s).cfg = s.cfg := rfl
@[simp] theorem fedTls_tls (ls : List Lane) (s : State) : (fedTls ls s).tls = s.tls := rfl

section
variable {s : State} (n : Nat) (ls : List Lane)

theorem fedTls_tlpTxIn :
    (fedTls ls s).sy.tlpTxIn = accept (s.tls.st == .fill) (feedChan false ls) := rfl

theorem fedTls_out_of_fill (hport : s.cfg.tlpPort < s.cfg.nPorts) (hst : s.tls.st = .fill) :
    portChan (fedTls ls s).sy.outPorts s.cfg.tlpPort =
      ⟨false, true, false, Config.idleUp (.outPort s.cfg.tlpPort) s.now⟩ := by
  refine (out_driven_of_fill (by simpa using hport) hst).trans ?_
  simp [portChan_replicate _ hport, offer, feedChan]

theorem fedTls_out_of_send (hport : s.cfg.tlpPort < s.cfg.nPorts) (hst : s.tls.st = .send) :
    portChan (fedTls ls s).sy.outPorts s.cfg.tlpPort = ⟨true, true, false, tlsWord s⟩ := by
  refine (out_driven_of_send (by simpa using hport) hst).trans ?_
  simp [portChan_replicate _ hport, offer, feedChan]

/-- A tick of `sendLanes`: the next registers, and what it takes and emits. -/
theorem sendLanes_succ (hinv : TlsInv s.cfg.tlpTxqDepth s.tls) :
    let w := (fedTls ls s).sy
    let o := portChan w.outPorts s.cfg.tlpPort
    ∃ t, t.cfg = s.cfg ∧ t.tls = nextTls s.cfg s.tls w ∧
      sendLanes (n + 1) ls s =
        let r := sendLanes n (if transfers w.tlpTxIn then ls.tail else ls) t
        ((if transfers o then [o.pay] else []) ++ r.1, r.2) := by
  have hrun := runSite_tls (s := fedTls ls s) hinv
  rw [fedTls_cfg, fedTls_tls] at hrun
  refine ⟨(driveTls (fedTls ls s)).setTls (nextTls s.cfg s.tls (fedTls ls s).sy), by simp, by simp,
    ?_⟩
  rw [sendLanes]
  change (match runSite .tls (fedTls ls s) with
    | .next t' => _
    | _ => _) = _
  rw [hrun]
  rfl

/-- `FILL` takes the lane that is offered and emits nothing. -/
theorem sendLanes_fill (hport : s.cfg.tlpPort < s.cfg.nPorts) (hst : s.tls.st = .fill)
    (hinv : TlsInv s.cfg.tlpTxqDepth s.tls) (l : Lane) :
    ∃ t, t.cfg = s.cfg ∧ t.tls = nextTls s.cfg s.tls (fedTls (l :: ls) s).sy ∧
      sendLanes (n + 1) (l :: ls) s = sendLanes n ls t := by
  obtain ⟨t, hcfg, ht, hrun⟩ := sendLanes_succ n (l :: ls) hinv
  refine ⟨t, hcfg, ht, ?_⟩
  simpa [fedTls_out_of_fill _ hport hst, fedTls_tlpTxIn, transfers, accept, feedChan, hst]
    using hrun

/-- `SEND` emits the word of the head lane and takes no lane. -/
theorem sendLanes_send (hport : s.cfg.tlpPort < s.cfg.nPorts) (hst : s.tls.st = .send)
    (hinv : TlsInv s.cfg.tlpTxqDepth s.tls) :
    ∃ t, t.cfg = s.cfg ∧ t.tls = nextTls s.cfg s.tls (fedTls ls s).sy ∧
      sendLanes (n + 1) ls s = (tlsWord s :: (sendLanes n ls t).1, (sendLanes n ls t).2) := by
  obtain ⟨t, hcfg, ht, hrun⟩ := sendLanes_succ n ls hinv
  refine ⟨t, hcfg, ht, ?_⟩
  simpa [fedTls_out_of_send _ hport hst, fedTls_tlpTxIn, transfers, accept, hst] using hrun

end

/-! ### A record is filled in (R267 to R269) -/

/-- The entry of `tls.q` for a lane. -/
def laneEntry (l : Lane) : LaneEntry := ⟨l.data, l.be⟩

section
variable {c : Cfg} {q : List LaneEntry} {w : SysWires}

/-- `FILL` pushes a lane that is offered; the last one of a record closes it. -/
theorem nextTls_fill {l : Lane} {ready xfer : Bool} (hlane : w.tlpTxIn = ⟨true, ready, xfer, l⟩)
    (hroom : l.last = false → q.length + 1 ≠ c.tlpTxqDepth) :
    nextTls c ⟨.fill, q, queuedWords q, 0, false⟩ w =
      ⟨if l.last then .send else .fill, q ++ [laneEntry l], queuedWords (q ++ [laneEntry l]), 0,
        false⟩ := by
  have hcount : queuedWords (q ++ [laneEntry l]) = queuedWords q + laneWords l.be := by
    simp [queuedWords_append, queuedWords, laneEntry]
  rw [hcount]
  cases hl : l.last with
  | true => simp [nextTls, hlane, hl, laneEntry]
  | false => simp [nextTls, hlane, hl, laneEntry, hroom hl]

end

/-- The lanes of a record that fits are buffered, one in each tick, and the last one closes it. -/
theorem sendLanes_record {ls : List Lane} {q : List LaneEntry} {s : State} (n : Nat)
    (hport : s.cfg.tlpPort < s.cfg.nPorts) (hls : lastAtEnd ls)
    (htls : s.tls = ⟨.fill, q, queuedWords q, 0, false⟩)
    (hfits : q.length + ls.length ≤ s.cfg.tlpTxqDepth) :
    ∃ t, t.cfg = s.cfg ∧
      t.tls = ⟨.send, q ++ ls.map laneEntry, queuedWords (q ++ ls.map laneEntry), 0, false⟩ ∧
      sendLanes (n + ls.length) ls s = sendLanes n [] t := by
  induction ls generalizing s q with
  | nil => exact hls.elim
  | cons l ls ih =>
    rw [List.length_cons] at hfits
    have hroom : q.length < s.cfg.tlpTxqDepth := by omega
    have hinv : TlsInv s.cfg.tlpTxqDepth s.tls := by
      rw [htls]
      exact ⟨hroom, rfl⟩
    have hlane : (fedTls (l :: ls) s).sy.tlpTxIn = ⟨true, s.tls.st == .fill, false, l⟩ := rfl
    obtain ⟨t, hcfg, ht, hrun⟩ := sendLanes_fill (n + ls.length) ls hport (by rw [htls]) hinv l
    rw [htls] at ht
    cases ls with
    | nil =>
      have hl : l.last = true := hls
      rw [nextTls_fill hlane (by simp [hl]), hl] at ht
      exact ⟨t, hcfg, ht, hrun⟩
    | cons l' ls =>
      obtain ⟨hl, hls⟩ : l.last = false ∧ lastAtEnd (l' :: ls) := hls
      rw [List.length_cons] at hfits
      rw [nextTls_fill hlane (fun _ => by omega), hl] at ht
      obtain ⟨u, hu, hutls, hurun⟩ := ih (hcfg ▸ hport) hls ht
        (by rw [hcfg, List.length_append, List.length_singleton, List.length_cons]; omega)
      rw [List.append_assoc] at hutls
      exact ⟨u, hu.trans hcfg, hutls, hrun.trans hurun⟩

/-! ### The words that are left to send (R263, R276) -/

/-- The words of an entry of `tls.q` in their order. -/
def entryWords (e : LaneEntry) : List Word := laneHalves ⟨e.data, e.be, false⟩

/-- The words that the TLP Sender still has to send: those of the lanes in `tls.q`, but for the
lower half of the head lane where `tls.half` says that it is sent. -/
def unsentWords (t : Tls) : List Word := (t.q.flatMap entryWords).drop t.half.toNat

theorem entryWords_of_one {e : LaneEntry} (h : laneWords e.be = 1) :
    entryWords e = [lowerHalf e.data] := by
  have hbe : e.be.extractLsb' 4 4 = 0 := by simpa [laneWords] using h
  simp only [entryWords, laneHalves, hbe, if_true]

theorem entryWords_of_two {e : LaneEntry} (h : laneWords e.be = 2) :
    entryWords e = [lowerHalf e.data, upperHalf e.data] := by
  have hbe : e.be.extractLsb' 4 4 ≠ 0 := by simpa [laneWords] using h
  simp only [entryWords, laneHalves, hbe, if_false]

theorem length_entryWords (e : LaneEntry) : (entryWords e).length = laneWords e.be := by
  rcases laneWords_cases e.be with h | h
  · rw [entryWords_of_one h, h]; rfl
  · rw [entryWords_of_two h, h]; rfl

theorem length_flatMap_entryWords (q : List LaneEntry) :
    (q.flatMap entryWords).length = queuedWords q := by
  induction q with
  | nil => rfl
  | cons e q ih => rw [List.flatMap_cons, List.length_append, length_entryWords, ih, queuedWords]

theorem flatMap_entryWords_map (ls : List Lane) :
    (ls.map laneEntry).flatMap entryWords = ls.flatMap laneHalves := by
  rw [List.flatMap_map]
  rfl

/-- No lane is left where no word is. -/
theorem flatMap_entryWords_eq_nil {q : List LaneEntry} (h : q.flatMap entryWords = []) :
    q = [] := by
  cases q with
  | nil => rfl
  | cons e q => exact absurd h (List.cons_ne_nil _ _)

section
variable {depth : Nat} {t : Tls}

/-- In `SEND` the words sent and the words left are the words of the packet. -/
theorem sent_add_length_unsentWords (hst : t.st = .send) (hinv : TlsInv depth t) :
    t.sent + (unsentWords t).length = t.wcount := by
  simp only [TlsInv, hst] at hinv
  obtain ⟨hne, -, hsum, -, -⟩ := hinv
  have hpos := queuedWords_pos hne
  have hhalf := Bool.toNat_le t.half
  rw [unsentWords, List.length_drop, length_flatMap_entryWords]
  omega

/-- The word that comes next is an upper half, or a lower half whose upper half follows, or the only
half of its lane. -/
theorem unsentWords_cases (hst : t.st = .send) (hinv : TlsInv depth t) :
    ∃ e q, t.q = e :: q ∧
      ((t.half = true ∧ unsentWords t = upperHalf e.data :: q.flatMap entryWords) ∨
       (t.half = false ∧ laneWords e.be = 2 ∧
        unsentWords t = lowerHalf e.data :: upperHalf e.data :: q.flatMap entryWords) ∨
       (t.half = false ∧ laneWords e.be = 1 ∧
        unsentWords t = lowerHalf e.data :: q.flatMap entryWords)) := by
  simp only [TlsInv, hst] at hinv
  obtain ⟨hne, -, -, hhalf, -⟩ := hinv
  obtain ⟨e, q, hq⟩ := List.exists_cons_of_ne_nil hne
  refine ⟨e, q, hq, ?_⟩
  cases hh : t.half with
  | true =>
    have htwo : laneWords e.be = 2 := by simpa [hq] using hhalf hh
    exact .inl ⟨rfl, by simp [unsentWords, hq, hh, entryWords_of_two htwo]⟩
  | false =>
    rcases laneWords_cases e.be with hone | htwo
    · exact .inr (.inr ⟨rfl, hone, by simp [unsentWords, hq, hh, entryWords_of_one hone]⟩)
    · exact .inr (.inl ⟨rfl, htwo, by simp [unsentWords, hq, hh, entryWords_of_two htwo]⟩)

end

section
variable {depth : Nat} {c : Cfg} {t : Tls} {w : SysWires} {u : Word} {us : List Word}

/-- The final word is the one after which no word is left. -/
theorem sent_succ_eq_wcount_iff (hst : t.st = .send) (hinv : TlsInv depth t)
    (hunsent : unsentWords t = u :: us) : t.sent + 1 = t.wcount ↔ us = [] := by
  have hsum := sent_add_length_unsentWords hst hinv
  rw [hunsent, List.length_cons] at hsum
  rw [← List.length_eq_zero_iff]
  omega

/-- In `SEND` the word offered is the next one that is left to send. -/
theorem tlsWord_of_unsentWords {s : State} (hst : s.tls.st = .send) (hinv : TlsInv depth s.tls)
    (hunsent : unsentWords s.tls = u :: us) :
    tlsWord s = ⟨u, us.isEmpty, s.cfg.tlpTag, tlsLength s.tls.wcount⟩ := by
  have hlast : tlsLastWord s = us.isEmpty := by
    rw [tlsLastWord, Bool.eq_iff_iff, beq_iff_eq, sent_succ_eq_wcount_iff hst hinv hunsent,
      List.isEmpty_iff]
  have hdata : (tlsWord s).data = u := by
    obtain ⟨e, q, hq, hcase⟩ := unsentWords_cases hst hinv
    rw [tlsWord_data hq]
    rcases hcase with ⟨hh, heq⟩ | ⟨hh, -, heq⟩ | ⟨hh, -, heq⟩ <;> rw [hh] <;>
      exact (List.cons.inj (heq.symm.trans hunsent)).1
  rw [← hlast, ← hdata]
  rfl

/-- The final word leaves the TLP Sender at its reset values (R274). -/
theorem nextTls_last (hready : (portChan w.outPorts c.tlpPort).ready = true) (hst : t.st = .send)
    (hinv : TlsInv depth t) (hunsent : unsentWords t = [u]) : nextTls c t w = Tls.reset := by
  have hsent : t.sent + 1 = t.wcount := (sent_succ_eq_wcount_iff hst hinv hunsent).2 rfl
  have htail : t.q.tail = [] := by
    obtain ⟨e, q, hq, hcase⟩ := unsentWords_cases hst hinv
    rw [hunsent] at hcase
    rw [hq]
    rcases hcase with ⟨-, heq⟩ | ⟨-, -, heq⟩ | ⟨-, -, heq⟩
    · exact flatMap_entryWords_eq_nil (List.cons.inj heq).2.symm
    · exact absurd (List.cons.inj heq).2 (List.cons_ne_nil _ _).symm
    · exact flatMap_entryWords_eq_nil (List.cons.inj heq).2.symm
  simp only [nextTls, hst, hready, hsent, htail, if_true]
  rfl

/-- A word that is not the final one leaves the words behind it (R271 to R273). -/
theorem nextTls_more (hready : (portChan w.outPorts c.tlpPort).ready = true) (hst : t.st = .send)
    (hinv : TlsInv depth t) (hunsent : unsentWords t = u :: us) (hne : us ≠ []) :
    (nextTls c t w).st = .send ∧ (nextTls c t w).wcount = t.wcount ∧
      unsentWords (nextTls c t w) = us := by
  have hsent : t.sent + 1 ≠ t.wcount := mt (sent_succ_eq_wcount_iff hst hinv hunsent).1 hne
  obtain ⟨e, q, hq, hcase⟩ := unsentWords_cases hst hinv
  rw [hunsent] at hcase
  rcases hcase with ⟨hh, heq⟩ | ⟨hh, htwo, heq⟩ | ⟨hh, hone, heq⟩
  · obtain ⟨-, rfl⟩ := List.cons.inj heq
    simp [nextTls, hst, hready, hsent, hh, hq, unsentWords]
  · obtain ⟨-, rfl⟩ := List.cons.inj heq
    simp [nextTls, hst, hready, hsent, hh, hq, htwo, unsentWords, entryWords_of_two htwo]
  · obtain ⟨-, rfl⟩ := List.cons.inj heq
    simp [nextTls, hst, hready, hsent, hh, hq, hone, unsentWords]

end

/-! ### The run over a record -/

/-- `SEND` emits the words that are left, one in each tick, as the end of one packet. -/
theorem sendLanes_words {s : State} {ws : List Word} (hport : s.cfg.tlpPort < s.cfg.nPorts)
    (hst : s.tls.st = .send) (hinv : TlsInv s.cfg.tlpTxqDepth s.tls)
    (hunsent : unsentWords s.tls = ws) (hne : ws ≠ []) :
    ∃ t, t.tls = Tls.reset ∧ sendLanes ws.length [] s =
      (upWords s.cfg.tlpTag (tlsLength s.tls.wcount) ws, t) := by
  induction ws generalizing s with
  | nil => exact absurd rfl hne
  | cons u us ih =>
    obtain ⟨t, hcfg, ht, hrun⟩ := sendLanes_send us.length [] hport hst hinv
    have hready : (portChan (fedTls [] s).sy.outPorts s.cfg.tlpPort).ready = true := by
      rw [fedTls_out_of_send _ hport hst]
    rw [tlsWord_of_unsentWords hst hinv hunsent] at hrun
    rw [upWords_cons, List.length_cons, hrun]
    cases us with
    | nil => exact ⟨t, ht.trans (nextTls_last hready hst hinv hunsent), rfl⟩
    | cons u' us =>
      obtain ⟨hst', hwcount, hunsent'⟩ := nextTls_more hready hst hinv hunsent (List.cons_ne_nil _ _)
      have hinv' : TlsInv t.cfg.tlpTxqDepth t.tls := by
        rw [hcfg, ht]
        exact tlsInv_nextTls _ hinv
      rw [← ht] at hst' hwcount hunsent'
      obtain ⟨t', ht', hrun'⟩ := ih (hcfg ▸ hport) hst' hinv' hunsent' (List.cons_ne_nil _ _)
      exact ⟨t', ht', by rw [hrun', hcfg, hwcount]⟩

theorem lastAtEnd_ne_nil {ls : List Lane} (h : lastAtEnd ls) : ls ≠ [] := fun hnil => by
  rw [hnil] at h
  exact h

/-- A record that fits `tls.q` leaves as one packet of the halves of its lanes. -/
theorem sendLanes_packet {s : State} {ls : List Lane} (hreset : s.tls = Tls.reset)
    (hls : lastAtEnd ls) (hfits : ls.length ≤ s.cfg.tlpTxqDepth) (htag : s.cfg.tlpTag ∈ s.cfg.tags) :
    let ws := ls.flatMap laneHalves
    ∃ t, t.tls = Tls.reset ∧ sendLanes (ls.length + ws.length) ls s =
      (upWords s.cfg.tlpTag (tlsLength ws.length) ws, t) := by
  intro ws
  have hport := tlpPort_lt htag
  obtain ⟨t, hcfg, ht, hfill⟩ :=
    sendLanes_record (q := []) ws.length hport hls hreset (by simpa using hfits)
  rw [List.nil_append] at ht
  have hqueue : (ls.map laneEntry).flatMap entryWords = ws := flatMap_entryWords_map ls
  have hcount : queuedWords (ls.map laneEntry) = ws.length := by
    rw [← hqueue, length_flatMap_entryWords]
  have hmap : ls.map laneEntry ≠ [] := by simpa using lastAtEnd_ne_nil hls
  have hinv : TlsInv t.cfg.tlpTxqDepth t.tls := by
    rw [hcfg, ht]
    exact tlsInv_send_popped (Nat.zero_add _) (queuedWords_pos hmap) (by simpa using hfits)
  have hne : ws ≠ [] := by
    rw [← hqueue]
    exact mt flatMap_entryWords_eq_nil hmap
  obtain ⟨t', ht', hsend⟩ := sendLanes_words (hcfg ▸ hport) (by rw [ht]) hinv
    (by rw [ht]; exact hqueue) hne
  refine ⟨t', ht', ?_⟩
  rw [Nat.add_comm, hfill, hsend, hcfg, ht, hcount]

end Sys2Proof.SenderLaws
end

section
/-! The statement on the packet that the TLP Sender makes of a record. -/

namespace Sys2Proof.SenderLaws

open Sys2Proof.Machine

/-- Settles O58: the record leaves as the packet of `sendLanes_packet`, whose words 32 bits count. -/
theorem senderEmitsOnePacket : Obligations.SenderEmitsOnePacket := by
  intro s ls hreset hls hfits htag hcount ws r
  obtain ⟨t, ht, hrun⟩ := sendLanes_packet hreset hls hfits htag
  have hpos : 1 ≤ ws.length := by
    obtain ⟨l, ls', rfl⟩ := List.exists_cons_of_ne_nil (lastAtEnd_ne_nil hls)
    simp [ws, laneHalves]
  rw [tlsLength_of_pos hpos hcount] at hrun
  exact ⟨congrArg Prod.fst hrun, (congrArg (fun p => p.2.tls) hrun).trans ht⟩

end Sys2Proof.SenderLaws
end

section
/-! SUPPORT. The TLP Receiver alone: its operation as the pure next-state function of Safety.lean,
one tick of `receiveLanes` with and without a stored half, and the run over a packet. -/

namespace Sys2Proof.ReceiverLaws

open Sys2Proof.Machine Sys2Proof.SenderLaws

/-! ### One operation of the TLP Receiver -/

theorem tlr_eq_of_haveLow {s : State} {b : Bool} (h : s.tlr.haveLow = b) :
    s.tlr = ⟨s.tlr.low, b⟩ := by
  rw [← h]

/-- An operation that drives the outputs and writes `v` answers the state with both written. -/
theorem next_setTlr (s : State) {v w : Tlr} (h : v = w) :
    (Host.Outcome.next ((driveTlr s).setTlr v) : Out) = .next ((driveTlr s).setTlr w) := by
  rw [h]

/-- Whichever operation the TLP Receiver selects, it writes the next registers of R294 to R299. -/
theorem runSite_tlr (s : State) :
    runSite .tlr s = .next ((driveTlr s).setTlr (nextTlr s.cfg s.tlr s.sy)) := by
  rw [PacketizerLaws.runSite_of_selects (selects_tlr s)]
  simp only [nextTlr]
  cases (portChan s.sy.inPorts s.cfg.tlpPort).valid with
  | false => rfl
  | true =>
    cases hh : s.tlr.haveLow with
    | true =>
      cases s.sy.tlpRxOut.ready with
      | false => exact next_setTlr s (tlr_eq_of_haveLow hh)
      | true => rfl
    | false =>
      cases (portChan s.sy.inPorts s.cfg.tlpPort).pay.last with
      | false => rfl
      | true =>
        cases s.sy.tlpRxOut.ready with
        | false => rfl
        | true => exact next_setTlr s (tlr_eq_of_haveLow hh).symm

/-! ### One tick of `receiveLanes` -/

/-- The state in which the TLP Receiver's operation executes in a tick of `receiveLanes`: the first
of the words is offered on `tlr.in`, `tlp_rx_out` is ready. -/
def fedTlr (us : List UpWord) (s : State) : State :=
  driveTlr (s.setSy { s.sy with
    inPorts := List.replicate s.cfg.nPorts (feedChan false us)
    tlpRxOut := feedChan true [] })

@[simp] theorem fedTlr_cfg (us : List UpWord) (s : State) : (fedTlr us s).cfg = s.cfg := rfl
@[simp] theorem fedTlr_tlr (us : List UpWord) (s : State) : (fedTlr us s).tlr = s.tlr := rfl

section
variable {s : State} (hport : s.cfg.tlpPort < s.cfg.nPorts) (n : Nat) (u : UpWord)
  (us : List UpWord)

include hport in
/-- `tlr.in` while a word is offered: it is taken, as `tlp_rx_out` is ready (R292). -/
theorem fedTlr_in :
    portChan (fedTlr (u :: us) s).sy.inPorts s.cfg.tlpPort = ⟨true, true, false, u⟩ := by
  have hlen : s.cfg.tlpPort < (List.replicate s.cfg.nPorts (feedChan false (u :: us))).length := by
    simpa using hport
  refine (portChan_modify_self _ hlen).trans ?_
  simp [portChan_replicate _ hport, tlrOffer, offer, accept, feedChan]

include hport in
/-- `tlp_rx_out` while a word is offered: a lane, unless the word is a lower half that an upper one
follows (R292). -/
theorem fedTlr_tlpRxOut :
    (fedTlr (u :: us) s).sy.tlpRxOut = ⟨s.tlr.haveLow || u.last, true, false, tlrLane s u⟩ := by
  simp [fedTlr, tlrAccept, tlrOffer, portChan_replicate _ hport, offer, feedChan, tlrLane]

include hport in
/-- A tick of `receiveLanes`: the word is taken, and a lane is emitted that it completes. -/
theorem receiveLanes_succ :
    ∃ t, t.cfg = s.cfg ∧
      t.tlr = (if s.tlr.haveLow then { s.tlr with haveLow := false }
        else if u.last then s.tlr else ⟨u.data, true⟩) ∧
      receiveLanes (n + 1) (u :: us) s =
        ((if s.tlr.haveLow || u.last then [tlrLane s u] else []) ++ (receiveLanes n us t).1,
          (receiveLanes n us t).2) := by
  have hin := fedTlr_in hport u us
  have hout := fedTlr_tlpRxOut hport u us
  have hrun := runSite_tlr (fedTlr (u :: us) s)
  rw [fedTlr_cfg, fedTlr_tlr] at hrun
  refine ⟨(driveTlr (fedTlr (u :: us) s)).setTlr (nextTlr s.cfg s.tlr (fedTlr (u :: us) s).sy),
    by simp, ?_, ?_⟩
  · simp [nextTlr, hin, hout]
  · rw [receiveLanes]
    change (match runSite .tlr (fedTlr (u :: us) s) with
      | .next t' =>
        let i := portChan (fedTlr (u :: us) s).sy.inPorts s.cfg.tlpPort
        let o := (fedTlr (u :: us) s).sy.tlpRxOut
        let r := receiveLanes n (if transfers i then us else u :: us) t'
        ((if transfers o then [o.pay] else []) ++ r.1, r.2)
      | _ => _) = _
    rw [hrun, hin, hout]
    simp [transfers]

include hport in
/-- A lower half that an upper one follows is stored (R295). -/
theorem receiveLanes_low (hlow : s.tlr.haveLow = false) (hlast : u.last = false) :
    ∃ t, t.cfg = s.cfg ∧ t.tlr = ⟨u.data, true⟩ ∧
      receiveLanes (n + 1) (u :: us) s = receiveLanes n us t := by
  obtain ⟨t, hcfg, ht, hrun⟩ := receiveLanes_succ hport n u us
  rw [hlow, hlast] at ht hrun
  exact ⟨t, hcfg, ht, hrun⟩

include hport in
/-- An odd last word makes a lane of its own (R297). -/
theorem receiveLanes_single (hlow : s.tlr.haveLow = false) (hlast : u.last = true) :
    ∃ t, t.cfg = s.cfg ∧ t.tlr = s.tlr ∧
      receiveLanes (n + 1) (u :: us) s =
        (⟨joinHalves 0 u.data, 0x0F, true⟩ :: (receiveLanes n us t).1,
          (receiveLanes n us t).2) := by
  obtain ⟨t, hcfg, ht, hrun⟩ := receiveLanes_succ hport n u us
  have hlane : tlrLane s u = ⟨joinHalves 0 u.data, 0x0F, true⟩ := by simp [tlrLane, hlow]
  rw [hlow, hlast] at ht hrun
  rw [hlane] at hrun
  exact ⟨t, hcfg, ht, hrun⟩

include hport in
/-- An upper half makes a lane with the stored lower one (R299). -/
theorem receiveLanes_pair {lo : Word} (htlr : s.tlr = ⟨lo, true⟩) :
    ∃ t, t.cfg = s.cfg ∧ t.tlr = ⟨lo, false⟩ ∧
      receiveLanes (n + 1) (u :: us) s =
        (⟨joinHalves u.data lo, 0xFF, u.last⟩ :: (receiveLanes n us t).1,
          (receiveLanes n us t).2) := by
  obtain ⟨t, hcfg, ht, hrun⟩ := receiveLanes_succ hport n u us
  have hlane : tlrLane s u = ⟨joinHalves u.data lo, 0xFF, u.last⟩ := by simp [tlrLane, htlr]
  rw [htlr] at ht hrun
  rw [hlane] at hrun
  exact ⟨t, hcfg, ht, hrun⟩

end

/-! ### The run over a packet -/

/-- A packet becomes the lanes that its words pair up to, one word in each tick. -/
theorem receiveLanes_packet {s : State} (hport : s.cfg.tlpPort < s.cfg.nPorts)
    (hlow : s.tlr.haveLow = false) (dst : Tag) (length : Word) (ws : List Word) :
    ∃ t, t.tlr.haveLow = false ∧
      receiveLanes ws.length (upWords dst length ws) s = (pairLanes ws, t) := by
  induction ws using pairLanes.induct generalizing s with
  | case1 => exact ⟨s, hlow, rfl⟩
  | case2 w =>
    obtain ⟨t, -, ht, hrun⟩ := receiveLanes_single hport 0 ⟨w, true, dst, length⟩ [] hlow rfl
    exact ⟨t, ht ▸ hlow, hrun⟩
  | case3 lo hi ws ih =>
    obtain ⟨t, hcfg, ht, hstored⟩ := receiveLanes_low hport (ws.length + 1)
      ⟨lo, false, dst, length⟩ (upWords dst length (hi :: ws)) hlow rfl
    obtain ⟨u, hcfg', hu, hpaired⟩ := receiveLanes_pair (hcfg ▸ hport) ws.length
      ⟨hi, ws.isEmpty, dst, length⟩ (upWords dst length ws) ht
    obtain ⟨v, hv, hrest⟩ := ih ((hcfg'.trans hcfg) ▸ hport) (by rw [hu])
    rw [← upWords_cons, hrest] at hpaired
    exact ⟨v, hv, hstored.trans hpaired⟩

end Sys2Proof.ReceiverLaws
end

section
/-! The statement on a record that passes through TLP Sender and TLP Receiver. -/

namespace Sys2Proof.SenderLaws

open Sys2Proof.Machine Sys2Proof.ReceiverLaws

/-- A lane is its two halves (R68). -/
theorem joinHalves_halves (d : LaneData) : joinHalves (upperHalf d) (lowerHalf d) = d := by
  refine (BitVec.extractLsb'_append_extractLsb'_eq_extractLsb' rfl).trans ?_
  exact BitVec.extractLsb'_eq_self

theorem laneHalves_of_full {l : Lane} (h : l.be = 0xFF) :
    laneHalves l = [lowerHalf l.data, upperHalf l.data] := by
  simp [laneHalves, h]

theorem laneHalves_of_half {l : Lane} (h : l.be = 0x0F) : laneHalves l = [lowerHalf l.data] := by
  simp [laneHalves, h]

theorem lastAtEnd_of_wholeRecord {ls : List Lane} (h : wholeRecord ls) : lastAtEnd ls := by
  induction ls with
  | nil => exact h
  | cons l ls ih =>
    cases ls with
    | nil =>
      obtain ⟨hlast, -⟩ := h
      exact hlast
    | cons l' ls =>
      obtain ⟨hlast, -, hls⟩ := h
      exact ⟨hlast, ih hls⟩

/-- The halves of a record that the conversion preserves pair up to its lanes. -/
theorem pairLanes_laneHalves {ls : List Lane} (h : wholeRecord ls) :
    pairLanes (ls.flatMap laneHalves) = ls := by
  induction ls with
  | nil => exact h.elim
  | cons l ls ih =>
    obtain ⟨d, be, last⟩ := l
    cases ls with
    | nil =>
      obtain ⟨rfl, rfl | ⟨rfl, hupper⟩⟩ : last = true ∧ _ := h
      · simp [laneHalves_of_full, pairLanes, joinHalves_halves]
      · simp [laneHalves_of_half, pairLanes, ← hupper, joinHalves_halves]
    | cons l' ls =>
      obtain ⟨rfl, rfl, hls⟩ : last = false ∧ be = 0xFF ∧ wholeRecord (l' :: ls) := h
      rw [List.flatMap_cons, laneHalves_of_full rfl]
      simp only [List.cons_append, List.nil_append, pairLanes, ih hls, joinHalves_halves]
      rfl

/-- Settles O60: the record leaves the TLP Sender as one packet of its halves, which the TLP
Receiver pairs up to the lanes they come from. -/
theorem widthConversionFidelity : Obligations.WidthConversionFidelity := by
  intro s t ls hreset hls hfits htag hlow htag' n
  obtain ⟨_, -, hsend⟩ := sendLanes_packet hreset (lastAtEnd_of_wholeRecord hls) hfits htag
  obtain ⟨_, -, hreceive⟩ := receiveLanes_packet (tlpPort_lt htag') hlow s.cfg.tlpTag
    (tlsLength n) (ls.flatMap laneHalves)
  rw [hsend, hreceive]
  exact pairLanes_laneHalves hls

end Sys2Proof.SenderLaws
end

section
/-! The statements on the operations and on the outputs of the TLP Receiver, and on the lanes that
it makes of a packet. -/

namespace Sys2Proof.ReceiverLaws

open Sys2Proof.Machine Sys2Proof.WireLaws Sys2Proof.SenderLaws

/-- Settles O59, by the run over the packet. -/
theorem receiverPairsWords : Obligations.ReceiverPairsWords := by
  intro s dst length ws hlow _ htag r
  obtain ⟨t, ht, hrun⟩ := receiveLanes_packet (tlpPort_lt htag) hlow dst length ws
  exact ⟨congrArg Prod.fst hrun, (congrArg (fun p => p.2.tlr.haveLow) hrun).trans ht⟩

/-! ### The output rule (R292) -/

section
variable {s : State} {w : SysWires}

theorem tlrLane_of_no_half (hlow : s.tlr.haveLow = false) (u : UpWord) :
    tlrLane s u = ⟨joinHalves 0 u.data, 0x0F, true⟩ := by
  simp only [tlrLane, hlow, Bool.false_eq_true, if_false]

theorem tlrLane_of_half (hlow : s.tlr.haveLow = true) (u : UpWord) :
    tlrLane s u = ⟨joinHalves u.data s.tlr.low, 0xFF, u.last⟩ := by
  simp only [tlrLane, hlow, if_true]

/-- A lane is offered exactly when a word completes it. -/
theorem tlpRxOut_valid_driven (s : State) (w : SysWires) :
    let i := portChan w.inPorts s.cfg.tlpPort
    (tlrAccept s (tlrOffer s w)).tlpRxOut.valid = (i.valid && (s.tlr.haveLow || i.pay.last)) := rfl

/-- Without a stored half, a lane is offered for the last word of a packet alone. -/
theorem tlpRxOut_driven_of_no_half (hlow : s.tlr.haveLow = false) :
    let i := portChan w.inPorts s.cfg.tlpPort
    (tlrAccept s (tlrOffer s w)).tlpRxOut =
      offer (i.valid && i.pay.last) ⟨joinHalves 0 i.pay.data, 0x0F, true⟩ w.tlpRxOut := by
  simp only [tlrAccept, tlrOffer, tlrLane_of_no_half hlow, hlow, Bool.false_or]

/-- With a stored half, every word makes a lane. -/
theorem tlpRxOut_driven_of_half (hlow : s.tlr.haveLow = true) :
    let i := portChan w.inPorts s.cfg.tlpPort
    (tlrAccept s (tlrOffer s w)).tlpRxOut =
      offer i.valid ⟨joinHalves i.pay.data s.tlr.low, 0xFF, i.pay.last⟩ w.tlpRxOut := by
  simp only [tlrAccept, tlrOffer, tlrLane_of_half hlow, hlow, Bool.true_or, Bool.and_true]

/-- A word that completes a lane is taken with the lane, any other one at once. -/
theorem in_ready_driven (hport : s.cfg.tlpPort < w.inPorts.length) :
    (portChan (tlrAccept s (tlrOffer s w)).inPorts s.cfg.tlpPort).ready =
      if s.tlr.haveLow || (portChan w.inPorts s.cfg.tlpPort).pay.last then w.tlpRxOut.ready
      else true := by
  simp only [tlrAccept, portChan_modify_self _ (show _ < (tlrOffer s w).inPorts.length from hport)]
  rfl

end

theorem driveTlr_settleSys {s : State} {y : SysIn} (h : y.rst = false) :
    tlrAccept s (tlrOffer s (settleSys s y)) = settleSys s y :=
  let ⟨_, _, htlr, _⟩ := settledWiresAreAFixedPoint.1 s y h
  htlr

/-- Settles O40: driving the TLP Receiver's outputs again leaves the settled wires as they are, so
the output rule holds of them, with and without a stored half. -/
theorem receiverOutputs : Obligations.ReceiverOutputs := by
  intro s y hrst hport w i o
  have htlr : tlrAccept s (tlrOffer s w) = w := driveTlr_settleSys hrst
  have hlt : s.cfg.tlpPort < w.inPorts.length := by rwa [inPorts_length_settleSys hrst]
  have hready : i.ready = if s.tlr.haveLow || i.pay.last then o.ready else true := by
    have hdriven := in_ready_driven hlt
    rwa [htlr] at hdriven
  refine ⟨fun hlow => ?noHalf, fun hlow => ?half⟩
  case noHalf =>
    have hout : o = _ := htlr ▸ tlpRxOut_driven_of_no_half (w := w) hlow
    exact ⟨congrArg Chan.valid hout, congrArg Chan.pay hout, by rw [hready, hlow]; rfl⟩
  case half =>
    have hout : o = _ := htlr ▸ tlpRxOut_driven_of_half (w := w) hlow
    exact ⟨congrArg Chan.valid hout, congrArg Chan.pay hout, by rw [hready, hlow]; rfl⟩

/-! ### The rows of the operation map -/

/-- Without a word on `tlr.in` nothing happens (R294). -/
theorem selects_idle {s : State} (hv : (portChan s.sy.inPorts s.cfg.tlpPort).valid = false) :
    selects s .tlr = .ok (.tlrIdle s.tlr.haveLow (portChan s.sy.inPorts s.cfg.tlpPort).pay.last
      s.sy.tlpRxOut.ready) := by
  rw [selects_tlr]
  simp only [hv, Bool.false_eq_true, if_false]

section
variable {s : State} (hv : (portChan s.sy.inPorts s.cfg.tlpPort).valid = true)
include hv

/-- Without a stored half, a word that more words follow is stored (R295). -/
theorem selects_take_low (hlow : s.tlr.haveLow = false)
    (hl : (portChan s.sy.inPorts s.cfg.tlpPort).pay.last = false) :
    selects s .tlr = .ok (.tlrTakeLow s.sy.tlpRxOut.ready) := by
  rw [selects_tlr]
  simp only [hv, hlow, hl, Bool.false_eq_true, if_true, if_false]

/-- Without a stored half, the last word waits for `tlp_rx_out` (R296, R297). -/
theorem selects_single (hlow : s.tlr.haveLow = false)
    (hl : (portChan s.sy.inPorts s.cfg.tlpPort).pay.last = true) :
    selects s .tlr = .ok (if s.sy.tlpRxOut.ready then .tlrSingleEmit else .tlrSingleStall) := by
  rw [selects_tlr]
  simp only [hv, hlow, hl, Bool.false_eq_true, if_true, if_false]

/-- With a stored half, every word waits for `tlp_rx_out` (R298, R299). -/
theorem selects_pair (hlow : s.tlr.haveLow = true) :
    selects s .tlr = .ok (
      let l := (portChan s.sy.inPorts s.cfg.tlpPort).pay.last
      if s.sy.tlpRxOut.ready then .tlrPairEmit l else .tlrPairStall l) := by
  rw [selects_tlr]
  simp only [hv, hlow, if_true]

end

/-- Settles O22: the stored half, the word on `tlr.in` and the consumer select the row, and every
row drives the outputs of R292 and writes `tlr`. -/
theorem receiverOperations : Obligations.ReceiverOperations := by
  intro s w i l r go
  have hvalid : w.tlpRxOut.valid = (i.valid && (s.tlr.haveLow || l)) := tlpRxOut_valid_driven s s.sy
  have hready : i.valid = true → (portChan w.inPorts s.cfg.tlpPort).ready =
      if s.tlr.haveLow || l then r else true :=
    fun hv => in_ready_driven (lt_length_of_portChan_valid hv)
  refine ⟨fun hv => ?idle, fun hlow hv hl => ?takeLow, fun hlow hv hl hr => ?singleStall,
    fun hlow hv hl hr => ?singleEmit, fun hlow hv hr => ?pairStall, fun hlow hv hr => ?pairEmit⟩
  case idle => exact ⟨selects_idle hv, by rw [hvalid, hv, Bool.false_and], fun _ _ _ => rfl⟩
  case takeLow =>
    refine ⟨selects_take_low hv hlow hl, ?_, ?_, fun _ => rfl⟩
    · rw [hvalid, hv, hlow, hl]; rfl
    · rw [hready hv, hlow, hl]; rfl
  case singleStall =>
    have hrow : selects s .tlr = .ok (if r then _ else _) := selects_single hv hlow hl
    rw [hrow, hvalid, hready hv, hv, hlow, hl, hr]
    exact ⟨rfl, rfl, rfl, rfl⟩
  case singleEmit =>
    have hrow : selects s .tlr = .ok (if r then _ else _) := selects_single hv hlow hl
    have hlane : w.tlpRxOut.pay = _ := congrArg Chan.pay (tlpRxOut_driven_of_no_half hlow)
    rw [hrow, hvalid, hready hv, hv, hlow, hl, hr]
    exact ⟨rfl, rfl, hlane, rfl, rfl⟩
  case pairStall =>
    have hrow : selects s .tlr = .ok (if r then _ else _) := selects_pair hv hlow
    rw [hrow, hvalid, hready hv, hv, hlow, hr]
    exact ⟨rfl, rfl, rfl, fun _ => rfl⟩
  case pairEmit =>
    have hrow : selects s .tlr = .ok (if r then _ else _) := selects_pair hv hlow
    have hlane : w.tlpRxOut.pay = _ := congrArg Chan.pay (tlpRxOut_driven_of_half hlow)
    rw [hrow, hvalid, hready hv, hv, hlow, hr]
    exact ⟨rfl, rfl, hlane, rfl, fun _ => rfl⟩

end Sys2Proof.ReceiverLaws
end

section
/-! The statement on the ranges of the ghost counters under any synchroniser step, once for both
cross-domain FIFOs. -/

namespace Sys2Proof.FifoLaws

open Sys2Proof.Machine

/-- Whatever values are asked for (log entry 14): the ghost counters stay in their ranges, and each
moves in its own direction only. -/
theorem afifoSync_stays_in_range {q : CrossFifo} {v f : Nat} {s t : State}
    (hexec : exec (.afifoSync q v f) s = .next t)
    (hwf : (s.crossFifo q).wf (s.crossDepth q) = true) :
    (t.crossFifo q).wf (t.crossDepth q) = true ∧
    (t.crossFifo q).items = (s.crossFifo q).items ∧
    (s.crossFifo q).vis ≤ (t.crossFifo q).vis ∧
    (t.crossFifo q).freed ≤ (s.crossFifo q).freed := by
  obtain rfl : s.fifoSync q v f = t :=
    Host.Outcome.next.inj ((exec_afifoSync q v f s).symm.trans hexec)
  rw [fifoSync_crossFifo, fifoSync_crossDepth]
  exact ⟨Afifo.sync_wf v f hwf, rfl, le_max_left _ _, min_le_right _ _⟩

/-- Settles O12: `afifoSync_stays_in_range` at each of the two FIFOs. -/
theorem synchroniserStaysInRange : Obligations.SynchroniserStaysInRange := fun _ _ _ _ =>
  ⟨fun hexec hwf => afifoSync_stays_in_range (q := .rxq) hexec hwf,
    fun hexec hwf => afifoSync_stays_in_range (q := .txq) hexec hwf⟩

end Sys2Proof.FifoLaws
end

section
/-! The statements on the registration of ports: the operation in its three cases, and the
elaboration of a whole list of tags, two steps for each. -/

namespace Sys2Proof.ElaborationLaws

open Sys2Proof.Machine Sys2Proof.EventLaws

/-! ### One registration (R320) -/

/-- The state after the registration of a new tag. -/
def withPort (s : State) (t : Tag) : State :=
  { s with
    cfg := { s.cfg with tags := s.cfg.tags ++ [t] }
    sy := { s.sy with
      inPorts := s.sy.inPorts ++ [chanOff]
      outPorts := s.sy.outPorts ++ [chanOff] } }

section
variable {s : State} {t : Tag}

theorem exec_xbarRegisterPort_of_new (hopen : s.started = false) (hnew : t ∉ s.cfg.tags) :
    exec (.xbarRegisterPort t) s = .next (withPort s t) := by
  simp only [exec, execXbarRegisterPort, hopen, hnew, Bool.false_eq_true, if_false]
  rfl

theorem exec_xbarRegisterPort_of_registered (hopen : s.started = false) (hold : t ∈ s.cfg.tags) :
    exec (.xbarRegisterPort t) s = .fault .configError := by
  simp only [exec, execXbarRegisterPort, hopen, hold, Bool.false_eq_true, if_false, if_true,
    raiseCause]

theorem exec_xbarRegisterPort_of_started (hclosed : s.started = true) :
    exec (.xbarRegisterPort t) s = .refused .portTableClosed := by
  simp only [exec, execXbarRegisterPort, hclosed, if_true]

end

/-- Settles O25: the tag selects the operation, whose three cases are the lemmas above. -/
theorem registerPort : Obligations.RegisterPort := fun s t =>
  ⟨selects_regPort s t, exec_xbarRegisterPort_of_new, exec_xbarRegisterPort_of_registered,
    exec_xbarRegisterPort_of_started⟩

/-! ### The two steps of a tag (log entry 3) -/

/-- Between two registrations: no site is left to execute, no tick has come, and `ts` are the tags
that the elaboration has still to register. -/
structure Elaborating (s : State) (ts : List Tag) : Prop where
  agenda      : s.agenda = []
  started     : s.started = false
  pendingTags : s.pendingTags = ts

theorem run_fault {s : State} {r : Fault} (k : Nat) (hs : step s = .fault r) :
    Host.Core.run core (k + 1) s = .fault r := by
  simp only [Host.Core.run, show core.step s = .fault r from hs]

theorem step_regPort {s : State} {t : Tag} {rest : List Site}
    (ha : s.agenda = .regPort t :: rest) :
    step s = exec (.xbarRegisterPort t) (s.setAgenda rest) :=
  step_of_selects ha (selects_regPort s t)

section
variable {s : State} {t : Tag} {ts : List Tag} (h : Elaborating s (t :: ts))
include h

/-- The first step takes the tag. -/
theorem Elaborating.step_takes_tag :
    step s = .next { s with pendingTags := ts, agenda := [.regPort t] } := by
  simp only [step, h.agenda, openNext, h.started, h.pendingTags]

/-- The two steps of a new tag: the port table grows, no register changes. -/
theorem Elaborating.run_of_new (hnew : t ∉ s.cfg.tags) :
    ∃ u, (∀ k, Host.Core.run core (k + 2) s = Host.Core.run core k u) ∧ Elaborating u ts ∧
      u.cfg = { s.cfg with tags := s.cfg.tags ++ [t] } ∧ u.regs = s.regs := by
  refine ⟨withPort { s with pendingTags := ts, agenda := [] } t, fun k => ?_,
    ⟨rfl, h.started, rfl⟩, rfl, rfl⟩
  rw [run_succ (k + 1) h.step_takes_tag]
  exact run_succ k ((step_regPort rfl).trans (exec_xbarRegisterPort_of_new h.started hnew))

/-- The two steps of a tag that is registered already: the second halts start-up. -/
theorem Elaborating.run_of_registered (k : Nat) (hold : t ∈ s.cfg.tags) :
    Host.Core.run core (k + 2) s = .fault .configError := by
  rw [run_succ (k + 1) h.step_takes_tag]
  exact run_fault k ((step_regPort rfl).trans (exec_xbarRegisterPort_of_registered h.started hold))

end

/-! ### The whole list (R334, R364)

By induction on the tags still to register, over every port table that stands already: what decides
is whether the table and these tags together hold a tag twice. -/

/-- All tags are distinct, and none is in the table: the table grows by the list. -/
theorem Elaborating.run_of_nodup {s : State} {ts : List Tag} (h : Elaborating s ts)
    (hnodup : (s.cfg.tags ++ ts).Nodup) :
    ∃ t, Host.Core.run core (2 * ts.length) s = .next t ∧
      t.cfg = { s.cfg with tags := s.cfg.tags ++ ts } ∧ Elaborating t [] ∧ t.regs = s.regs := by
  induction ts generalizing s with
  | nil => exact ⟨s, rfl, by rw [List.append_nil], h, rfl⟩
  | cons tag ts ih =>
    have hnew : tag ∉ s.cfg.tags := fun hold =>
      List.disjoint_of_nodup_append hnodup hold List.mem_cons_self
    obtain ⟨u, hrun, hu, hcfg, hregs⟩ := h.run_of_new hnew
    have htags : u.cfg.tags ++ ts = s.cfg.tags ++ tag :: ts := by
      rw [hcfg, ← List.append_cons]
    obtain ⟨t, htrun, htcfg, ht, htregs⟩ := ih hu (htags ▸ hnodup)
    refine ⟨t, (hrun _).trans htrun, ?_, ht, htregs.trans hregs⟩
    rw [htcfg, htags, hcfg]

/-- A tag occurs twice: start-up halts where it is registered again. -/
theorem Elaborating.run_of_not_nodup {s : State} {ts : List Tag} (h : Elaborating s ts)
    (htable : s.cfg.tags.Nodup) (hdup : ¬ (s.cfg.tags ++ ts).Nodup) :
    Host.Core.run core (2 * ts.length) s = .fault .configError := by
  induction ts generalizing s with
  | nil => exact absurd ((List.append_nil _).symm ▸ htable) hdup
  | cons tag ts ih =>
    by_cases hold : tag ∈ s.cfg.tags
    · exact h.run_of_registered _ hold
    · obtain ⟨u, hrun, hu, hcfg, -⟩ := h.run_of_new hold
      have hutable : u.cfg.tags.Nodup := by
        rw [hcfg]
        exact htable.append (List.nodup_singleton tag) (List.disjoint_singleton.2 hold)
      have htags : u.cfg.tags ++ ts = s.cfg.tags ++ tag :: ts := by
        rw [hcfg, ← List.append_cons]
      exact (hrun _).trans (ih hu hutable (htags ▸ hdup))

/-- Settles O26: the start state is `Elaborating` with an empty port table, so the list alone
decides. -/
theorem elaborationBuildsPortTable : Obligations.ElaborationBuildsPortTable := by
  intro c ts start
  have hstart : Elaborating start ts := ⟨rfl, rfl, rfl⟩
  refine ⟨fun hnodup => ?_, fun hdup => hstart.run_of_not_nodup List.nodup_nil hdup⟩
  obtain ⟨t, hrun, hcfg, ht, hregs⟩ := hstart.run_of_nodup hnodup
  exact ⟨t, hrun, hcfg, ht.pendingTags, ht.agenda, ht.started, hregs⟩

end Sys2Proof.ElaborationLaws
end

section
/-! SUPPORT. The invariants, part by part of the state: which updates keep them. -/

namespace Sys2Proof.Machine

section
variable {s t : State}

/-- The invariants speak of the configuration, the registers and the agenda alone. -/
theorem inv_of_regs_eq (h : Inv s) (hcfg : t.cfg = s.cfg) (hregs : t.regs = s.regs)
    (hq : Site.fq .tlsq ∉ t.agenda) : Inv t := by
  obtain ⟨hlbf, hpkt, hdpk, hxbar, htls, -, hrxq, htxq⟩ := Regs.mk.inj hregs
  constructor
  case admitted => exact hcfg ▸ h.admitted
  case rxBudget => rw [hlbf, hcfg]; exact h.rxBudget
  case txBudget => rw [hlbf, hcfg]; exact h.txBudget
  case hidx => rw [hpkt]; exact h.hidx
  case hcnt => rw [hdpk]; exact h.hcnt
  case timer => rw [hdpk, hcfg]; exact h.timer
  case grant => rw [hxbar, hcfg]; exact h.grant
  case rxq => rw [hrxq, hcfg]; exact h.rxq
  case txq => rw [htxq, hcfg]; exact h.txq
  case tls => rw [htls, hcfg]; exact h.tls
  case noTlsq => exact hq

section
variable (h : Inv s)
include h

theorem Inv.next_agenda {site : Site} {rest : List Site} (ha : s.agenda = site :: rest) :
    Inv (s.setAgenda rest) :=
  inv_of_regs_eq h rfl rfl fun hmem => h.noTlsq (ha ▸ List.mem_cons_of_mem site hmem)

theorem Inv.setLk (w : LinkWires) : Inv (s.setLk w) := inv_of_regs_eq h rfl rfl h.noTlsq

theorem Inv.setSy (w : SysWires) : Inv (s.setSy w) := inv_of_regs_eq h rfl rfl h.noTlsq

theorem Inv.setLbf {l : Lbf} (hrx : l.rxTime ≤ s.cfg.tRx - 1) (htx : l.txTime ≤ s.cfg.tTx - 1) :
    Inv (s.setLbf l) :=
  { h with rxBudget := hrx, txBudget := htx }

theorem Inv.setPkt {p : Pkt} (hidx : p.st ≠ .insertHeader → p.hidx = 0) : Inv (s.setPkt p) :=
  { h with hidx := hidx }

theorem Inv.setDpk {d : Dpk} (hcnt : d.hcnt = true → d.st = .receiveHeader)
    (htimer : d.timer ≤ s.cfg.depackTimeout - 1) : Inv (s.setDpk d) :=
  { h with hcnt := hcnt, timer := htimer }

theorem Inv.setXbar {x : Xbar} (hgrant : x.grant < s.cfg.nPorts) : Inv (s.setXbar x) :=
  { h with grant := hgrant }

theorem Inv.setTls {v : Tls} (htls : TlsInv s.cfg.tlpTxqDepth v) : Inv (s.setTls v) :=
  { h with tls := htls }

theorem Inv.setTlr (v : Tlr) : Inv (s.setTlr v) := { h with }

theorem Inv.setRxq {q : Afifo} (hq : q.wf s.cfg.rxqDepth = true) : Inv (s.setRxq q) :=
  { h with rxq := hq }

theorem Inv.setTxq {q : Afifo} (hq : q.wf s.cfg.txqDepth = true) : Inv (s.setTxq q) :=
  { h with txq := hq }

end

end

end Sys2Proof.Machine
end

section
/-! The statements on a single step: what it executes, that it keeps the invariants, and that it
answers a next state while every site left presents a word that it can present. -/

namespace Sys2Proof.StepLaws

open Sys2Proof.Machine Sys2Proof.EventLaws

/-! ### What a step executes -/

section
variable {s : State} {site : Site} {rest : List Site}

theorem step_of_no_site (ha : s.agenda = []) : step s = openNext s := by
  simp only [step, ha]

theorem step_of_rejected {why : Reject} (ha : s.agenda = site :: rest)
    (hd : decode site (controlWord s site) = .error why) :
    step s = .refused (.noOperation why) := by
  simp only [step, ha, hd]

end

/-- Settles O1: the three cases are the three branches of a step. -/
theorem stepRunsSelectedOperation : Obligations.StepRunsSelectedOperation := fun _ =>
  ⟨step_of_no_site, fun _ _ _ => step_of_selects, fun _ _ _ => step_of_rejected⟩

/-! ### The ranges that the next-state functions keep -/

/-- A pop where a word is visible and a push where there is room keep the ghost counters in their
ranges (R131). -/
theorem nextFifo_wf {q : Afifo} {depth : Nat} {popped room : Bool} (e : Word)
    (h : q.wf depth = true) :
    (nextFifo q (popped && sourceValid q)
      (if room && sinkReady q depth then some e else none)).wf depth = true := by
  cases hpop : popped && sourceValid q <;> cases hpush : room && sinkReady q depth
  · exact h
  · exact Afifo.push_wf e h (Bool.and_eq_true_iff.1 hpush).2
  · exact Afifo.pop_wf h (Bool.and_eq_true_iff.1 hpop).2
  · exact Afifo.pop_push_wf e h (Bool.and_eq_true_iff.1 hpush).2 (Bool.and_eq_true_iff.1 hpop).2

theorem nextLbf_rxTime_le {c : Cfg} {l : Lbf} (w : LinkWires) (h : l.rxTime ≤ c.tRx - 1) :
    (nextLbf c l w).rxTime ≤ c.tRx - 1 := by
  simp only [nextLbf]
  (repeat' split) <;> omega

theorem nextLbf_txTime_le {c : Cfg} {l : Lbf} (w : LinkWires) (h : l.txTime ≤ c.tTx - 1) :
    (nextLbf c l w).txTime ≤ c.tTx - 1 := by
  simp only [nextLbf]
  (repeat' split) <;> omega

theorem nextXbar_grant_lt {s : State} (h : s.xbar.grant < s.cfg.nPorts) :
    (nextXbar s.cfg s.xbar s.sy).grant < s.cfg.nPorts := by
  rw [CrossbarLaws.nextXbar_grant]
  split
  · exact nextGrant_lt h
  · exact h

/-! ### The step of each site keeps the invariants -/

section
variable {s : State} {rest : List Site}

/-- Whatever the wires show, the Depacketizer counts its timer and leaves `dpk.hcnt` 0 outside
`RECEIVE_HEADER` (R30, R193). -/
theorem step_dpk_ranges (ha : s.agenda = .dpk :: rest)
    (h : s.dpk.hcnt = true → s.dpk.st = .receiveHeader) :
    ∃ d w, step s = .next (((s.setAgenda rest).setSy w).setDpk d) ∧ d.timer = nextTimer s ∧
      (d.hcnt = true → d.st = .receiveHeader) := by
  rw [step_of_selects ha (selects_dpk s)]
  cases hst : s.dpk.st with
  | receiveHeader => dsimp only; (repeat' split) <;> exact ⟨_, _, rfl, rfl, by simp [hst]⟩
  | idle | copy =>
    have hno : s.dpk.hcnt = false := by simpa [hst] using h
    dsimp only
    (repeat' split) <;> exact ⟨_, _, rfl, rfl, by simp [hno]⟩

/-- The arbiter half moves the grant to a port at most (R35, R240). -/
theorem step_xa_grant (ha : s.agenda = .xa :: rest) (h : s.xbar.grant < s.cfg.nPorts) :
    ∃ x, step s = .next ((driveXa (s.setAgenda rest)).setXbar x) ∧ x.grant < s.cfg.nPorts := by
  obtain ⟨i, x, hi, hexec, hgrant, -⟩ := CrossbarLaws.exec_selected_xa (s.setAgenda rest)
  have hstep := (step_eq_runSite ha).trans ((PacketizerLaws.runSite_of_selects hi).trans hexec)
  exact ⟨x, hstep, hgrant ▸ nextXbar_grant_lt (s := s.setAgenda rest) h⟩

/-- The dispatch half writes the count of `nextXbar` alone (R232, R237). -/
theorem step_xd_next (ha : s.agenda = .xd :: rest) :
    step s = .next ((driveXd (s.setAgenda rest)).setXbar
      { s.xbar with unroutedCount := (nextXbar s.cfg s.xbar s.sy).unroutedCount }) := by
  have hcount : (nextXbar s.cfg s.xbar s.sy).unroutedCount =
      if (xdOffer s s.sy).unroutedEvt then s.xbar.unroutedCount + 1
      else s.xbar.unroutedCount := rfl
  rw [hcount]
  cases h : (xdOffer s s.sy).unroutedEvt with
  | true => exact step_xd_of_unrouted ha h
  | false => exact step_xd_of_not_unrouted ha h

/-- A step that answers `t` executes whatever operation the site selects. -/
theorem exec_of_step {site : Site} {t : State} (ha : s.agenda = site :: rest)
    (hstep : step s = .next t) :
    ∃ i, selects s site = .ok i ∧ exec i (s.setAgenda rest) = .next t := by
  rcases step_next hstep with ⟨hnone, -⟩ | ⟨site', rest', i, ha', hi, hexec⟩
  · exact absurd (ha.symm.trans hnone) (List.cons_ne_nil _ _)
  · obtain ⟨rfl, rfl⟩ := List.cons.inj (ha.symm.trans ha')
    exact ⟨i, hi, hexec⟩

end

/-! ### Registering a port and resetting a domain -/

section
variable {s : State}

/-- A new port keeps the tags distinct, and the grant stays in the larger range. -/
theorem inv_withPort (h : Inv s) {t : Tag} (hnew : t ∉ s.cfg.tags) :
    Inv (ElaborationLaws.withPort s t) := by
  obtain ⟨hnodup, htlp, htimer, hrxq, htxq, htls⟩ := (admitted_iff s.cfg).1 h.admitted
  have hadmitted : (ElaborationLaws.withPort s t).cfg.admitted = true :=
    (admitted_iff _).2 ⟨hnodup.append (List.nodup_singleton t) (List.disjoint_singleton.2 hnew),
      List.mem_append_left _ htlp, htimer, hrxq, htxq, htls⟩
  have hgrant : s.xbar.grant < (s.cfg.tags ++ [t]).length :=
    h.grant.trans_le (by simp [Cfg.nPorts])
  exact { h with admitted := hadmitted, grant := hgrant }

theorem inv_of_exec_xbarRegisterPort (h : Inv s) {t : State} {tag : Tag}
    (hexec : exec (.xbarRegisterPort tag) s = .next t) : Inv t := by
  cases hstarted : s.started with
  | true =>
    rw [ElaborationLaws.exec_xbarRegisterPort_of_started hstarted] at hexec
    cases hexec
  | false =>
    by_cases hold : tag ∈ s.cfg.tags
    · rw [ElaborationLaws.exec_xbarRegisterPort_of_registered hstarted hold] at hexec
      cases hexec
    · rw [ElaborationLaws.exec_xbarRegisterPort_of_new hstarted hold] at hexec
      cases hexec
      exact inv_withPort h hold

theorem inv_clearCrossFifos (h : Inv s) : Inv (clearCrossFifos s) :=
  (h.setRxq (Afifo.empty_wf _)).setTxq (Afifo.empty_wf _)

theorem inv_resetLinkDomain (h : Inv s) : Inv (resetLinkDomain s) := by
  have hlink := (h.setLk { LinkWires.off with rst := true }).setLbf (l := Lbf.reset s.cfg)
    le_rfl le_rfl
  unfold resetLinkDomain
  dsimp only
  split
  · exact inv_clearCrossFifos hlink
  · exact hlink

/-- After the reset of the system domain there is a port for the grant and `tls.q` is not full. -/
theorem inv_resetSysDomain (h : Inv s) : Inv (resetSysDomain s) := by
  obtain ⟨-, htag, -, -, -, hdepth⟩ := (admitted_iff s.cfg).1 h.admitted
  have hports : 0 < s.cfg.nPorts := List.length_pos_of_mem htag
  have hpkt := (h.setSy { SysWires.off with rst := true }).setPkt (p := Pkt.reset) fun _ => rfl
  have hdpk := hpkt.setDpk (d := Dpk.reset s.cfg) nofun le_rfl
  have hsys := ((hdpk.setXbar (x := Xbar.reset) hports).setTls (v := Tls.reset)
    ⟨hdepth, rfl⟩).setTlr Tlr.reset
  unfold resetSysDomain
  dsimp only
  split
  · exact inv_clearCrossFifos hsys
  · exact hsys

end

/-! ### Every step -/

section
variable {s t : State} {rest : List Site}

/-- A reset input at 0 selects nothing. -/
theorem instr_of_selects_rstLink {i : Instr} (hi : selects s .rstLink = .ok i) :
    i = .resetLink := by
  cases hrst : s.lk.rst with
  | true => exact Except.ok.inj (hi.symm.trans (selects_rstLink s hrst))
  | false => simp [selects, controlWord, hrst, decode, unreachable, decodeBits, decodeReset,
      orNoPattern] at hi

theorem instr_of_selects_rstSys {i : Instr} (hi : selects s .rstSys = .ok i) : i = .resetSys := by
  cases hrst : s.sy.rst with
  | true => exact Except.ok.inj (hi.symm.trans (selects_rstSys s hrst))
  | false => simp [selects, controlWord, hrst, decode, unreachable, decodeBits, decodeReset,
      orNoPattern] at hi

/-- A word read as `W0` that is not the preamble selects nothing (R91). -/
theorem pay_of_selects_w0 {i : Instr} (hi : selects s (.lp .w0) = .ok i) :
    s.sy.dpkSink.pay = preamble := by
  by_contra hne
  simp [selects, controlWord, hne, decode, decodeFrame, orNoPattern] at hi

/-- A word of a frame writes two fields of `dpk` that no invariant speaks of, or wires. -/
theorem inv_of_step_lp (h : Inv s) {k : FramePos} (ha : s.agenda = .lp k :: rest)
    (hstep : step s = .next t) : Inv t := by
  have h' := h.next_agenda ha
  obtain ⟨i, hi, hexec⟩ := exec_of_step ha hstep
  cases k with
  | w0 =>
    obtain rfl := Except.ok.inj (hi.symm.trans (selects_lp_w0 s (pay_of_selects_w0 hi)))
    cases hexec
    exact h'.setSy _
  | w1 | w2 =>
    cases hi
    cases hexec
    exact h'.setDpk h'.hcnt h'.timer
  | payload =>
    cases hi
    cases hexec
    exact h'.setSy _

/-- The execution of one site. -/
theorem inv_of_step_site (h : Inv s) {site : Site} (ha : s.agenda = site :: rest)
    (hstep : step s = .next t) : Inv t := by
  have h' := h.next_agenda ha
  have done {u : State} (hu : step s = .next u) (hinv : Inv u) : Inv t :=
    Host.Outcome.next.inj (hu.symm.trans hstep) ▸ hinv
  cases site with
  | lp k => exact inv_of_step_lp h ha hstep
  | ch c =>
    exact done (step_ch ha)
      (inv_of_regs_eq h' (by simp) (by simp [State.regs]) (by simpa using h'.noTlsq))
  | fq q =>
    cases q with
    | rxq => exact done (step_rxq ha) (h'.setRxq (nextFifo_wf _ h.rxq))
    | txq => exact done (step_txq ha) (h'.setTxq (nextFifo_wf _ h.txq))
    | tlsq => exact absurd (ha ▸ List.mem_cons_self) h.noTlsq
  | sync q v f =>
    cases q with
    | rxq => exact done (step_sync ha) (h'.setRxq (Afifo.sync_wf v f h.rxq))
    | txq => exact done (step_sync ha) (h'.setTxq (Afifo.sync_wf v f h.txq))
  | lbf =>
    exact done ((step_eq_runSite ha).trans (runSite_lbf _))
      ((h'.setLk _).setLbf (nextLbf_rxTime_le _ h.rxBudget) (nextLbf_txTime_le _ h.txBudget))
  | pkt =>
    exact done ((step_eq_runSite ha).trans (PacketizerLaws.runSite_pkt rfl h.hidx))
      ((h'.setSy _).setPkt (nextPkt_hidx _ h.hidx))
  | dpk =>
    obtain ⟨d, w, hdpk, htimer, hhcnt⟩ := step_dpk_ranges ha h.hcnt
    exact done hdpk ((h'.setSy w).setDpk hhcnt (htimer ▸ nextTimer_le h.timer))
  | xd => exact done (step_xd_next ha) ((h'.setSy _).setXbar h.grant)
  | xa =>
    obtain ⟨x, hxa, hgrant⟩ := step_xa_grant ha h.grant
    exact done hxa ((h'.setSy _).setXbar hgrant)
  | tls =>
    exact done ((step_eq_runSite ha).trans (runSite_tls h'.tls))
      ((h'.setSy _).setTls (tlsInv_nextTls _ h.tls))
  | tlr =>
    exact done ((step_eq_runSite ha).trans (ReceiverLaws.runSite_tlr _))
      ((h'.setSy _).setTlr _)
  | rstLink =>
    obtain ⟨i, hi, hexec⟩ := exec_of_step ha hstep
    obtain rfl := instr_of_selects_rstLink hi
    cases hexec
    exact inv_resetLinkDomain h'
  | rstSys =>
    obtain ⟨i, hi, hexec⟩ := exec_of_step ha hstep
    obtain rfl := instr_of_selects_rstSys hi
    cases hexec
    exact inv_resetSysDomain h'
  | regPort tag =>
    exact inv_of_exec_xbarRegisterPort h'
      ((step_of_selects ha (selects_regPort s tag)).symm.trans hstep)

/-- The opening of an event. -/
theorem inv_of_openNext (h : Inv s) (hopen : openNext s = .next t) : Inv t := by
  rcases openNext_next hopen with
    ⟨tag, ts, -, -, rfl⟩ | ⟨-, ⟨link, sys, -, -, rfl⟩ | ⟨q, v, f, -, rfl⟩⟩
  · exact inv_of_regs_eq h rfl rfl (by simp)
  · exact inv_of_regs_eq h (openTick_cfg _ _ _) (openTick_regs _ _ _) fun hmem =>
      not_listed_tlsq (listed_of_mem_openTick hmem)
  · exact inv_of_regs_eq h rfl rfl (by simp)

end

/-- Settles O46: a step opens an event or executes one site, and each site writes its own part of
the state. -/
theorem everyStepKeepsInvariants : Obligations.EveryStepKeepsInvariants := by
  intro s t h hstep
  cases ha : s.agenda with
  | nil => exact inv_of_openNext h ((step_of_no_site ha).symm.trans hstep)
  | cons site rest => exact inv_of_step_site h ha hstep

/-! ### A step that does not stop -/

section
variable {s : State}

/-- A state with the invariants whose sites are live is a tick under way. -/
theorem underway_of_inv (h : Inv s) (hlive : Live s) : Underway s :=
  ⟨h.admitted, h.hidx, h.tls, h.noTlsq, hlive⟩

/-- With no tag left to register, a step without a site opens the next event. -/
theorem openNext_of_elaborated (h : s.started = true ∨ s.pendingTags = []) :
    openNext s = openEvent { s with stim := s.stim.tail, now := s.now + 1 } (nextEvent s) := by
  unfold openNext
  rcases h with hstarted | hnone
  · rw [hstarted]
  · rw [hnone]
    cases s.started <;> rfl

/-- Whatever event comes, it opens with sites that are live. -/
theorem openNext_live (h : Underway s) : ∃ t, openNext s = .next t ∧ Live t := by
  have hu : Underway { s with stim := s.stim.tail, now := s.now + 1 } :=
    ⟨h.admitted, h.hidx, h.tls, h.noTlsq, h.live.elaborated, h.live.noRegPort, h.live.linkReset,
      h.live.sysReset, h.live.frameStart⟩
  rw [openNext_of_elaborated h.live.elaborated]
  cases nextEvent s with
  | tick link sys => exact ⟨_, if_pos h.admitted, (hu.openTick link sys).live⟩
  | sync q v f => exact ⟨_, rfl, h.live.elaborated, by simp, by simp, by simp, by simp⟩

end

/-- Settles O48: an event opens under the admitted configuration, and every live site executes. -/
theorem runningCoreNeverStops : Obligations.RunningCoreNeverStops := by
  intro s h hlive
  have hu := underway_of_inv h hlive
  have hgoes : ∃ t, step s = .next t ∧ Live t := by
    cases ha : s.agenda with
    | nil =>
      rw [step_of_no_site ha]
      exact openNext_live hu
    | cons site rest =>
      obtain ⟨t, hstep, hsite⟩ := hu.siteStep ha
      exact ⟨t, hstep, (hsite.underway hu).live⟩
  obtain ⟨t, hstep, hlive'⟩ := hgoes
  exact ⟨t, hstep, everyStepKeepsInvariants s t h hstep, hlive'⟩

/-! ### A configuration that is not admitted -/

theorem admitted_eq_false {c : Cfg}
    (h : ¬ c.tags.Nodup ∨ c.tlpTag ∉ c.tags ∨ c.depackTimeout = 0 ∨ c.rxqDepth = 0 ∨
      c.txqDepth = 0 ∨ c.tlpTxqDepth = 0) : c.admitted = false := by
  refine Bool.eq_false_iff.2 fun hadm => ?_
  obtain ⟨hnodup, htag, htimeout, hrxq, htxq, htls⟩ := (admitted_iff c).1 hadm
  rcases h with h | h | h | h | h | h
  · exact h hnodup
  · exact h htag
  all_goals omega

/-- Settles O27: a core at rest goes straight to opening the tick, which asks for an admitted
configuration. -/
theorem inadmissibleConfigurationHasNoTick : Obligations.InadmissibleConfigurationHasNoTick := by
  intro s link sys hrest h
  have hadm : (opening s).cfg.admitted = false := admitted_eq_false h
  have hopen : step { s with stim := [.tick link sys] } = .fault .configError := by
    rw [step_placed _ hrest, openEvent, hadm]
    rfl
  rw [perform, hopen]

end Sys2Proof.StepLaws
end

section
/-! The statements on the decoder: a word that selects an operation is its encoding, the patterns
cover the reachable words, and each component half selects exactly one operation. -/

namespace Sys2Proof.EncodingLaws

open Sys2Proof.Machine Sys2Proof.Laws

/-! ### A word that decodes is an encoding -/

/-- A control word that a pattern matches is the encoding of the pattern's operation: the operands
are the bits that the pattern leaves open. -/
theorem encode_of_decodeBits {site : Site} {b : List Bool} {i : Instr}
    (h : decodeBits site b = some i) : encode i = (site, .bits b) := by
  cases site with
  | lp k => simp [decodeBits] at h
  | sync q v f | regPort t =>
    cases b with
    | nil => cases h; rfl
    | cons => simp [decodeBits] at h
  | _ =>
    simp only [decodeBits, decodeCh.eq_def, decodeFq.eq_def, decodeLbf.eq_def, decodePkt.eq_def,
      decodeDpk.eq_def, decodeXd.eq_def, decodeXa.eq_def, decodeTls.eq_def, decodeTlr.eq_def,
      decodeReset.eq_def] at h
    split at h <;> cases h <;> rfl

/-- A word of a frame that its position reads is the encoding of what it reads. -/
theorem encode_of_decodeFrame {k : FramePos} {w : Word} {i : Instr}
    (h : decodeFrame k w = some i) : encode i = (.lp k, .frame w) := by
  cases k with
  | w0 =>
    by_cases hw : w = preamble
    · rw [decodeFrame, if_pos hw] at h
      cases h
      rw [hw]
      rfl
    · rw [decodeFrame, if_neg hw] at h
      cases h
  | w1 =>
    cases h
    have hfields : reservedField w ++ tagField w = w :=
      (BitVec.extractLsb'_append_extractLsb'_eq_extractLsb' rfl).trans BitVec.extractLsb'_eq_self
    rw [encode, hfields]
  | w2 | payload => cases h; rfl

/-- The operation map assigns a word to no other operation than the one it encodes. -/
theorem encode_of_matched {p : Site × Raw} {i : Instr} (h : matched p = some i) :
    encode i = p := by
  obtain ⟨site, w⟩ := p
  cases w with
  | bits b => exact encode_of_decodeBits (by cases site <;> exact h)
  | frame w =>
    cases site with
    | lp k => exact encode_of_decodeFrame h
    | _ => cases h

theorem decode_bits (site : Site) (b : List Bool) : decode site (.bits b) =
    if unreachable site b then .error .unreachable else orNoPattern (decodeBits site b) := by
  cases site <;> rfl

theorem orNoPattern_eq_ok {o : Option Instr} {i : Instr} :
    orNoPattern o = .ok i ↔ o = some i := by
  cases o <;> simp [orNoPattern]

/-- What the decoder accepts is reachable. -/
theorem reachableWord_of_decode {site : Site} {w : Raw} {i : Instr} (h : decode site w = .ok i) :
    reachableWord (site, w) = true := by
  cases w with
  | frame w => rfl
  | bits b =>
    rw [decode_bits] at h
    cases hreach : unreachable site b with
    | true => simp [hreach] at h
    | false => simp [reachableWord, hreach]

/-- Settles O4: a word that decodes is reachable and matched, so it is the encoding, and the
encoding of a well-formed operation. -/
theorem encodeOfDecode : Obligations.EncodeOfDecode := by
  intro site w i h
  have hreach := reachableWord_of_decode h
  have hencode : encode i = (site, w) :=
    encode_of_matched (orNoPattern_eq_ok.1 ((decode_of_reachableWord hreach).symm.trans h))
  exact ⟨by rw [wellFormed_eq_reachableWord, hencode, hreach], hencode⟩

/-! ### The patterns cover the reachable words -/

/-- The test holds of every word of the width. -/
def onAllWords : Nat → (List Bool → Bool) → Bool
  | 0, test => test []
  | n + 1, test =>
    onAllWords n (fun b => test (false :: b)) && onAllWords n fun b => test (true :: b)

theorem test_of_onAllWords {b : List Bool} {test : List Bool → Bool}
    (h : onAllWords b.length test = true) : test b = true := by
  induction b generalizing test with
  | nil => exact h
  | cons bit b ih =>
    obtain ⟨hfalse, htrue⟩ := Bool.and_eq_true_iff.1 h
    cases bit
    · exact ih hfalse
    · exact ih htrue

/-- A word of the site is unreachable or has a pattern. -/
def covered (site : Site) (b : List Bool) : Bool := unreachable site b || (decodeBits site b).isSome

/-- The control words of the seven component halves, and their widths. -/
def componentWords : List (Site × Nat) :=
  [(.lbf, 5), (.pkt, 7), (.dpk, 8), (.xd, 4), (.xa, 5), (.tls, 8), (.tlr, 4)]

/-- Every control word of a component is unreachable or has a pattern: a finite table. -/
theorem covered_componentWords :
    ∀ p ∈ componentWords, onAllWords p.2 (covered p.1) = true := by decide

/-- Settles O5: the table of `covered_componentWords`, read through the decoder. -/
theorem patternsCoverReachableWords : Obligations.PatternsCoverReachableWords := by
  rintro site n b hsite rfl
  have hcovered : covered site b = true :=
    test_of_onAllWords (covered_componentWords _ hsite)
  rw [decode_bits]
  refine ⟨fun hreach => ?_, fun hun => by rw [hun, if_pos rfl]⟩
  rw [covered, hreach, Bool.false_or, Option.isSome_iff_exists] at hcovered
  obtain ⟨i, hi⟩ := hcovered
  exact ⟨i, by rw [hreach, hi]; rfl⟩

/-! ### The component halves -/

/-- With the invariants no component half presents an unreachable word. -/
theorem exists_selects_of_inv {s : State} (h : Inv s) {site : Site}
    (hsite : site ∈ componentSites) : ∃ i, selects s site = .ok i := by
  simp only [componentSites, List.mem_cons, List.not_mem_nil, or_false] at hsite
  rcases hsite with rfl | rfl | rfl | rfl | rfl | rfl | rfl
  · exact ⟨_, selects_lbf s⟩
  · exact ⟨_, selects_dpk s⟩
  · exact ⟨_, selects_xd s⟩
  · exact ⟨_, selects_tlr s⟩
  · exact ⟨_, selects_tls s (EventLaws.TlsInv.lastWord_eq_false h.tls)⟩
  · exact ⟨_, selects_xa s⟩
  · exact ⟨_, selects_pkt s h.hidx⟩

/-- Settles O6: the decoder is a function, and what it answers is well formed. -/
theorem exactlyOneOperationPerComponent : Obligations.ExactlyOneOperationPerComponent := by
  intro s h site hsite
  obtain ⟨i, hi⟩ := exists_selects_of_inv h hsite
  obtain ⟨hwf, -⟩ := encodeOfDecode site (controlWord s site) i hi
  exact ⟨i, ⟨hi, hwf⟩, fun j hj => Except.ok.inj (hj.symm.trans hi)⟩

end Sys2Proof.EncodingLaws
end

section
/-! SUPPORT. The wires of a tick under way: they stand as they settled but for the transfer flags,
which no output rule and no next-state function reads. -/

namespace Sys2Proof.TickLaws

open Sys2Proof.Machine Sys2Proof.EventLaws

/-! ### The transfer flags of the system wires, put aside -/

section
variable (s : State) (w : SysWires)

theorem portChan_map_flagXfer (l : List (Chan UpWord)) (i : Nat) :
    portChan (l.map (flagXfer false)) i = flagXfer false (portChan l i) := by
  rw [portChan_eq, portChan_eq, List.getElem?_map]
  cases l[i]? <;> rfl

/-- What is driven on every channel of a family, whatever its flag is. -/
theorem map_flagXfer_modify_comm {f : Chan UpWord → Chan UpWord}
    (hf : ∀ c, flagXfer false (f c) = f (flagXfer false c)) (l : List (Chan UpWord)) (k : Nat) :
    (l.modify k f).map (flagXfer false) = (l.map (flagXfer false)).modify k f := by
  refine List.ext_getElem? fun i => ?_
  rw [List.getElem?_map, List.getElem?_modify, List.getElem?_modify, List.getElem?_map]
  cases l[i]? with
  | none => rfl
  | some c => by_cases hik : k = i <;> simp [hik, hf]

theorem driveDpk_withoutXfer : (dpkAccept s (dpkOffer s w)).withoutXfer =
    dpkAccept s (dpkOffer s w.withoutXfer) := by
  cases h : dpkForwards s <;>
    simp only [SysWires.withoutXfer, dpkAccept, dpkOffer, h, if_true, Bool.false_eq_true,
      if_false] <;>
    rfl

theorem driveXd_withoutXfer : (xdAccept s (xdOffer s w)).withoutXfer =
    xdAccept s (xdOffer s w.withoutXfer) := by
  have hports : (xdOffer s w).inPorts.map (flagXfer false) =
      (xdOffer s w.withoutXfer).inPorts := by
    simp only [xdOffer, SysWires.withoutXfer, List.map_zipWith, List.zipWith_map_right]
    rfl
  have hready : ∀ j, (portChan (xdOffer s w).inPorts j).ready =
      (portChan (xdOffer s w.withoutXfer).inPorts j).ready := fun j => by
    rw [← hports, portChan_map_flagXfer]
    rfl
  have hsource : flagXfer false (xdAccept s (xdOffer s w)).dpkSource =
      (xdAccept s (xdOffer s w.withoutXfer)).dpkSource := by
    simp only [xdAccept, hready]
    rfl
  exact congrArg₂ (fun l c => { xdOffer s w.withoutXfer with inPorts := l, dpkSource := c })
    hports hsource

theorem driveTlr_withoutXfer : (tlrAccept s (tlrOffer s w)).withoutXfer =
    tlrAccept s (tlrOffer s w.withoutXfer) := by
  have hout : flagXfer false (tlrOffer s w).tlpRxOut = (tlrOffer s w.withoutXfer).tlpRxOut := by
    have hport : portChan w.withoutXfer.inPorts s.cfg.tlpPort =
        flagXfer false (portChan w.inPorts s.cfg.tlpPort) := portChan_map_flagXfer _ _
    simp only [tlrOffer, hport]
    rfl
  have hports : (tlrAccept s (tlrOffer s w)).inPorts.map (flagXfer false) =
      (tlrAccept s (tlrOffer s w.withoutXfer)).inPorts := by
    simp only [tlrAccept, ← hout]
    exact map_flagXfer_modify_comm (fun _ => by rfl) _ _
  exact congrArg₂ (fun l c => { tlrOffer s w.withoutXfer with inPorts := l, tlpRxOut := c })
    hports hout

theorem driveTls_withoutXfer : (tlsAccept s (tlsOffer s w)).withoutXfer =
    tlsAccept s (tlsOffer s w.withoutXfer) := by
  have hports : (tlsOffer s w).outPorts.map (flagXfer false) =
      (tlsOffer s w.withoutXfer).outPorts :=
    map_flagXfer_modify_comm (fun _ => by cases s.tls.st <;> rfl) _ _
  exact congrArg (fun l => { (tlsAccept s (tlsOffer s w.withoutXfer)) with outPorts := l }) hports

theorem driveXa_withoutXfer : (xaAccept s (xaOffer s w)).withoutXfer =
    xaAccept s (xaOffer s w.withoutXfer) := by
  have hmTx : flagXfer false (xaOffer s w).mTx = (xaOffer s w.withoutXfer).mTx := by
    simp only [xaOffer, SysWires.withoutXfer, List.getElem?_map]
    cases w.outPorts[s.xbar.grant]? <;> rfl
  have hports : (xaAccept s (xaOffer s w)).outPorts.map (flagXfer false) =
      (xaAccept s (xaOffer s w.withoutXfer)).outPorts := by
    simp only [xaAccept, ← hmTx]
    refine List.ext_getElem? fun i => ?_
    simp only [List.getElem?_map, List.getElem?_mapIdx, xaOffer, SysWires.withoutXfer]
    cases w.outPorts[i]? <;> rfl
  exact congrArg₂ (fun l c => { xaOffer s w.withoutXfer with outPorts := l, mTx := c })
    hports hmTx

theorem drivePkt_withoutXfer : (pktAccept s (pktOffer s w)).withoutXfer =
    pktAccept s (pktOffer s w.withoutXfer) := by
  cases h : s.pkt.st <;> simp only [SysWires.withoutXfer, pktAccept, pktOffer, h] <;> rfl

end

/-! ### The next-state functions read no transfer flag -/

section
variable (c : Cfg) (w : SysWires)

theorem nextPkt_withoutXfer (p : Pkt) : nextPkt p w = nextPkt p w.withoutXfer := rfl

theorem nextTlr_withoutXfer (t : Tlr) : nextTlr c t w = nextTlr c t w.withoutXfer := by
  have hport : portChan w.withoutXfer.inPorts c.tlpPort =
      flagXfer false (portChan w.inPorts c.tlpPort) := portChan_map_flagXfer _ _
  simp only [nextTlr, hport]
  rfl

theorem nextTls_withoutXfer (t : Tls) : nextTls c t w = nextTls c t w.withoutXfer := by
  have hport : portChan w.withoutXfer.outPorts c.tlpPort =
      flagXfer false (portChan w.outPorts c.tlpPort) := portChan_map_flagXfer _ _
  simp only [nextTls, hport]
  rfl

theorem nextXbar_withoutXfer (x : Xbar) : nextXbar c x w = nextXbar c x w.withoutXfer := by
  have hport : ∀ i, portChan w.withoutXfer.outPorts i =
      flagXfer false (portChan w.outPorts i) := portChan_map_flagXfer _
  simp only [nextXbar, nextGrantOf, hport]
  rfl

end

end Sys2Proof.TickLaws
end

section
/-! SUPPORT. The state in the midst of a tick, written out: the state in which the tick opened, with
the sites that are left, the wires, and the registers as the sites so far have left them. -/

namespace Sys2Proof.TickLaws

open Sys2Proof.Machine Sys2Proof.EventLaws Sys2Proof.DepacketizerLaws

/-- The state in the midst of the tick that opened as `u`. -/
def midTick (u : State) (sites : List Site) (lw : LinkWires) (w : SysWires) (r : Regs) : State :=
  { u with
    agenda := sites, lk := lw, sy := w, lbf := r.lbf, pkt := r.pkt, dpk := r.dpk, xbar := r.xbar
    tls := r.tls, tlr := r.tlr, rxq := r.rxq, txq := r.txq }

/-- The system wires `w` stand as they settled to `v`, but for transfer flags; those of the channels
at the cross-domain FIFOs say what the channels transfer. -/
structure SysStanding (v w : SysWires) : Prop where
  wires     : w.withoutXfer = v.withoutXfer
  dpkSink   : w.dpkSink.xfer = transfers v.dpkSink
  pktSource : w.pktSource.xfer = transfers v.pktSource

/-- The same of the link wires. -/
structure LinkStanding (v w : LinkWires) : Prop where
  wires     : w.withoutXfer = v.withoutXfer
  rxqSink   : w.rxqSink.xfer = transfers v.rxqSink
  txqSource : w.txqSource.xfer = transfers v.txqSource

section
variable {v w : SysWires}

/-- A component that drives its outputs once more leaves the wires standing. -/
theorem SysStanding.driven (h : SysStanding v w) {drive : SysWires → SysWires}
    (hflags : ∀ w, (drive w).withoutXfer = drive w.withoutXfer)
    (hsink : (drive w).dpkSink.xfer = w.dpkSink.xfer)
    (hsource : (drive w).pktSource.xfer = w.pktSource.xfer) (hsettled : drive v = v) :
    SysStanding v (drive w) where
  wires := by rw [hflags, h.wires, ← hflags, hsettled]
  dpkSink := hsink.trans h.dpkSink
  pktSource := hsource.trans h.pktSource

section
variable (h : SysStanding v w)
include h

theorem SysStanding.nextPkt_eq (p : Pkt) : nextPkt p w = nextPkt p v := by
  rw [nextPkt_withoutXfer, h.wires, ← nextPkt_withoutXfer]

theorem SysStanding.nextDpk_eq (c : Cfg) (d : Dpk) : nextDpk c d w = nextDpk c d v := by
  rw [nextDpk_withoutXfer, h.wires, ← nextDpk_withoutXfer]

theorem SysStanding.nextXbar_eq (c : Cfg) (x : Xbar) : nextXbar c x w = nextXbar c x v := by
  rw [nextXbar_withoutXfer, h.wires, ← nextXbar_withoutXfer]

theorem SysStanding.nextTls_eq (c : Cfg) (t : Tls) : nextTls c t w = nextTls c t v := by
  rw [nextTls_withoutXfer, h.wires, ← nextTls_withoutXfer]

theorem SysStanding.nextTlr_eq (c : Cfg) (t : Tlr) : nextTlr c t w = nextTlr c t v := by
  rw [nextTlr_withoutXfer, h.wires, ← nextTlr_withoutXfer]

theorem SysStanding.sinkPay_eq : w.dpkSink.pay = v.dpkSink.pay :=
  congrArg (fun w => w.dpkSink.pay) h.wires

theorem SysStanding.pm_eq : w.pm = v.pm := congrArg (fun w => w.pm) h.wires

theorem SysStanding.transfers_dpkSink : transfers w.dpkSink = transfers v.dpkSink :=
  congrArg (fun w => transfers w.dpkSink) h.wires

end

end

/-! ### The system channels -/

section
variable {u : State} {rest : List Site} {lw : LinkWires} {w : SysWires} {r : Regs}

theorem setXfer_lk_of_sysChannel {c : Cfg} {d : ChanId} (hd : d ∈ sysChannels c) (s : State)
    (x : Bool) : (s.setXfer d x).lk = s.lk := by
  cases d with
  | linkRx | rxqSink | txqSource | linkTx => simp [sysChannels] at hd
  | _ => rfl

/-- The operation of a system channel writes its flag on the system wires. -/
theorem step_sysChannel {c : Cfg} {d : ChanId} (hd : d ∈ sysChannels c) :
    ∃ w', step (midTick u (.ch d :: rest) lw w r) = .next (midTick u rest lw w' r) ∧
      w'.withoutXfer = w.withoutXfer ∧
      (d = .dpkSink ∨ w.dpkSink.xfer = transfers w.dpkSink →
        w'.dpkSink.xfer = transfers w'.dpkSink) ∧
      (d = .pktSource ∨ w.pktSource.xfer = transfers w.pktSource →
        w'.pktSource.xfer = transfers w'.pktSource) := by
  have hstep := step_ch (s := midTick u (.ch d :: rest) lw w r) rfl
  generalize hx : (((midTick u (.ch d :: rest) lw w r).handshakeOf d).1 &&
    ((midTick u (.ch d :: rest) lw w r).handshakeOf d).2) = x at hstep
  have hstate : (midTick u rest lw w r).setXfer d x =
      midTick u rest lw ((midTick u rest lw w r).setXfer d x).sy r :=
    (ChannelLaws.setXfer_eq _ d x).trans (by rw [setXfer_lk_of_sysChannel hd]; rfl)
  refine ⟨_, hstep.trans (congrArg _ hstate), ChannelLaws.setXfer_sy_withoutXfer _ d x, ?_, ?_⟩
  · rintro (rfl | h)
    · exact hx.symm
    · cases d with
      | dpkSink => exact hx.symm
      | _ => exact h
  · rintro (rfl | h)
    · exact hx.symm
    · cases d with
      | pktSource => exact hx.symm
      | _ => exact h

/-- The system channels' part of a tick. -/
theorem runs_channels_flagged {c : Cfg} {cs : List ChanId} (hcs : ∀ d ∈ cs, d ∈ sysChannels c) :
    ∃ w', Runs (midTick u (cs.map .ch ++ rest) lw w r) (midTick u rest lw w' r) ∧
      w'.withoutXfer = w.withoutXfer ∧
      (.dpkSink ∈ cs ∨ w.dpkSink.xfer = transfers w.dpkSink →
        w'.dpkSink.xfer = transfers w'.dpkSink) ∧
      (.pktSource ∈ cs ∨ w.pktSource.xfer = transfers w.pktSource →
        w'.pktSource.xfer = transfers w'.pktSource) := by
  induction cs generalizing w with
  | nil => exact ⟨w, .refl _, rfl, by simp, by simp⟩
  | cons d cs ih =>
    obtain ⟨w₁, hstep, hwires₁, hsink₁, hsource₁⟩ := step_sysChannel (u := u) (lw := lw) (w := w)
      (r := r) (rest := cs.map .ch ++ rest) (hcs d List.mem_cons_self)
    obtain ⟨w₂, hrun, hwires₂, hsink₂, hsource₂⟩ :=
      ih (w := w₁) fun e he => hcs e (List.mem_cons_of_mem d he)
    refine ⟨w₂, (Runs.one rfl hstep rfl).trans hrun, hwires₂.trans hwires₁, fun h => hsink₂ ?_,
      fun h => hsource₂ ?_⟩
    · rw [List.mem_cons, or_assoc, or_left_comm] at h
      exact h.imp_right fun h => hsink₁ (h.imp_left Eq.symm)
    · rw [List.mem_cons, or_assoc, or_left_comm] at h
      exact h.imp_right fun h => hsource₁ (h.imp_left Eq.symm)

/-- After all system channels the wires stand with their flags. -/
theorem runs_sysChannels_standing (c : Cfg) :
    ∃ w, Runs (midTick u ((sysChannels c).map .ch ++ rest) lw u.sy r) (midTick u rest lw w r) ∧
      SysStanding u.sy w := by
  obtain ⟨w, hrun, hwires, hsink, hsource⟩ := runs_channels_flagged (u := u) (lw := lw)
    (w := u.sy) (r := r) (rest := rest) (c := c) (cs := sysChannels c) fun _ hd => hd
  have hsink := hsink (.inl (by simp [sysChannels]))
  have hsource := hsource (.inl (by simp [sysChannels]))
  have hsinkMoves : transfers w.dpkSink = transfers u.sy.dpkSink :=
    congrArg (fun w => transfers w.dpkSink) hwires
  have hsourceMoves : transfers w.pktSource = transfers u.sy.pktSource :=
    congrArg (fun w => transfers w.pktSource) hwires
  exact ⟨w, hrun, hwires, hsink.trans hsinkMoves, hsource.trans hsourceMoves⟩

end

/-! ### The components, one by one

Each finds its registers as the tick found them and the wires standing, and writes what its pure
function says of the settled wires. -/

section
variable {u : State} {rest : List Site} {lw : LinkWires} {w : SysWires} {r : Regs}
  (hw : SysStanding u.sy w)
include hw

theorem step_dpk_mid (hdpk : r.dpk = u.dpk) (hset : dpkAccept u (dpkOffer u u.sy) = u.sy)
    (hpm : u.sy.pm = (u.sy.dpkSink.pay == preamble)) :
    ∃ w', step (midTick u (.dpk :: rest) lw w r) =
      .next (midTick u rest lw w' { r with dpk := nextDpk u.cfg u.dpk u.sy }) ∧
      SysStanding u.sy w' := by
  obtain ⟨lbf, pkt, dpk, xbar, tls, tlr, rxq, txq⟩ := r
  obtain rfl : dpk = u.dpk := hdpk
  have hrun := runSite_dpk (s := midTick u rest lw w ⟨lbf, pkt, u.dpk, xbar, tls, tlr, rxq, txq⟩)
    (hw.dpkSink.trans hw.transfers_dpkSink.symm)
    (hw.pm_eq.trans (hpm.trans (by rw [← hw.sinkPay_eq]; rfl)))
  refine ⟨dpkAccept u (dpkOffer u w), (step_eq_runSite rfl).trans (hrun.trans ?_),
    hw.driven (driveDpk_withoutXfer u) rfl rfl hset⟩
  rw [← hw.nextDpk_eq]
  rfl

theorem step_xd_mid (hxbar : r.xbar = u.xbar) (hset : xdAccept u (xdOffer u u.sy) = u.sy) :
    ∃ w', step (midTick u (.xd :: rest) lw w r) = .next (midTick u rest lw w' { r with
        xbar := { u.xbar with unroutedCount := (nextXbar u.cfg u.xbar u.sy).unroutedCount } }) ∧
      SysStanding u.sy w' := by
  obtain ⟨lbf, pkt, dpk, xbar, tls, tlr, rxq, txq⟩ := r
  obtain rfl : xbar = u.xbar := hxbar
  refine ⟨xdAccept u (xdOffer u w), (StepLaws.step_xd_next rfl).trans ?_,
    hw.driven (driveXd_withoutXfer u) rfl rfl hset⟩
  rw [← hw.nextXbar_eq]
  rfl

theorem step_tlr_mid (htlr : r.tlr = u.tlr) (hset : tlrAccept u (tlrOffer u u.sy) = u.sy) :
    ∃ w', step (midTick u (.tlr :: rest) lw w r) =
      .next (midTick u rest lw w' { r with tlr := nextTlr u.cfg u.tlr u.sy }) ∧
      SysStanding u.sy w' := by
  obtain ⟨lbf, pkt, dpk, xbar, tls, tlr, rxq, txq⟩ := r
  obtain rfl : tlr = u.tlr := htlr
  refine ⟨tlrAccept u (tlrOffer u w),
    (step_eq_runSite rfl).trans ((ReceiverLaws.runSite_tlr _).trans ?_),
    hw.driven (driveTlr_withoutXfer u) rfl rfl hset⟩
  rw [← hw.nextTlr_eq]
  rfl

theorem step_tls_mid {depth : Nat} (htls : r.tls = u.tls) (hinv : TlsInv depth u.tls)
    (hset : tlsAccept u (tlsOffer u u.sy) = u.sy) :
    ∃ w', step (midTick u (.tls :: rest) lw w r) =
      .next (midTick u rest lw w' { r with tls := nextTls u.cfg u.tls u.sy }) ∧
      SysStanding u.sy w' := by
  obtain ⟨lbf, pkt, dpk, xbar, tls, tlr, rxq, txq⟩ := r
  obtain rfl : tls = u.tls := htls
  have hrun := runSite_tls (s := midTick u rest lw w ⟨lbf, pkt, dpk, xbar, u.tls, tlr, rxq, txq⟩)
    hinv
  refine ⟨tlsAccept u (tlsOffer u w), (step_eq_runSite rfl).trans (hrun.trans ?_),
    hw.driven (driveTls_withoutXfer u) rfl rfl hset⟩
  rw [← hw.nextTls_eq]
  rfl

/-- The count that the dispatch half has left is none of the arbiter half's concerns. -/
theorem step_xa_mid {n : Word} (hxbar : r.xbar = { u.xbar with unroutedCount := n })
    (hset : xaAccept u (xaOffer u u.sy) = u.sy) :
    ∃ w', step (midTick u (.xa :: rest) lw w r) = .next (midTick u rest lw w' { r with
        xbar := { nextXbar u.cfg u.xbar u.sy with unroutedCount := n } }) ∧
      SysStanding u.sy w' := by
  obtain ⟨lbf, pkt, dpk, xbar, tls, tlr, rxq, txq⟩ := r
  obtain rfl : xbar = { u.xbar with unroutedCount := n } := hxbar
  obtain ⟨i, ⟨grant, locked, count⟩, hi, hexec, hgrant, hlocked, hcount⟩ :=
    CrossbarLaws.exec_selected_xa (midTick u rest lw w
      ⟨lbf, pkt, dpk, { u.xbar with unroutedCount := n }, tls, tlr, rxq, txq⟩)
  have hstep := (step_eq_runSite (s := midTick u (.xa :: rest) lw w
    ⟨lbf, pkt, dpk, { u.xbar with unroutedCount := n }, tls, tlr, rxq, txq⟩) rfl).trans
    ((PacketizerLaws.runSite_of_selects hi).trans hexec)
  obtain rfl : grant = (nextXbar u.cfg u.xbar w).grant := hgrant
  obtain rfl : locked = (nextXbar u.cfg u.xbar w).locked := hlocked
  obtain rfl : count = n := hcount
  refine ⟨xaAccept u (xaOffer u w), hstep.trans ?_,
    hw.driven (driveXa_withoutXfer u) rfl rfl hset⟩
  rw [← hw.nextXbar_eq]
  rfl

theorem step_pkt_mid (hpkt : r.pkt = u.pkt) (hidx : u.pkt.st ≠ .insertHeader → u.pkt.hidx = 0)
    (hset : pktAccept u (pktOffer u u.sy) = u.sy) :
    ∃ w', step (midTick u (.pkt :: rest) lw w r) =
      .next (midTick u rest lw w' { r with pkt := nextPkt u.pkt u.sy }) ∧
      SysStanding u.sy w' := by
  obtain ⟨lbf, pkt, dpk, xbar, tls, tlr, rxq, txq⟩ := r
  obtain rfl : pkt = u.pkt := hpkt
  have hrun := PacketizerLaws.runSite_pkt (st := u.pkt.st) (x := u.pkt.hidx)
    (s := midTick u rest lw w ⟨lbf, u.pkt, dpk, xbar, tls, tlr, rxq, txq⟩) rfl hidx
  have hsource : (pktAccept u (pktOffer u w)).pktSource.xfer = w.pktSource.xfer := by
    simp only [pktAccept, pktOffer]
    cases u.pkt.st <;> rfl
  refine ⟨pktAccept u (pktOffer u w), (step_eq_runSite rfl).trans (hrun.trans ?_),
    hw.driven (drivePkt_withoutXfer u) rfl hsource hset⟩
  rw [← hw.nextPkt_eq]
  rfl

end

end Sys2Proof.TickLaws
end

section
/-! SUPPORT. The parts of a tick: the link domain's sites, the system domain's, and the cross-domain
FIFOs. -/

namespace Sys2Proof.TickLaws

open Sys2Proof.Machine Sys2Proof.EventLaws Sys2Proof.DepacketizerLaws

section
variable {s u : State} {site : Site} {rest : List Site} {lw : LinkWires} {w : SysWires}
  {r r' : Regs}

/-- A run goes on with the site that is next. -/
theorem runs_next_mid (hrun : Runs s (midTick u (site :: rest) lw w r))
    (hstep : ∃ w', step (midTick u (site :: rest) lw w r) = .next (midTick u rest lw w' r') ∧
      SysStanding u.sy w') :
    ∃ w', Runs s (midTick u rest lw w' r') ∧ SysStanding u.sy w' := by
  obtain ⟨w', hstep, hw'⟩ := hstep
  exact ⟨w', hrun.trans (.one rfl hstep rfl), hw'⟩

end

/-! ### The word of a frame, which finds its effect on the wires and in `dpk` -/

section
variable {u : State} {rest : List Site} {lw : LinkWires} {w : SysWires} {r : Regs}

theorem pay_of_framePos_w0 (h : framePos u = some .w0) : u.sy.dpkSink.pay = preamble := by
  unfold framePos at h
  cases hst : u.dpk.st with
  | idle => simpa [hst] using h
  | receiveHeader => cases hh : u.dpk.hcnt <;> simp [hst, hh] at h
  | copy => simp [hst] at h

theorem st_of_framePos_payload (h : framePos u = some .payload) : u.dpk.st = .copy := by
  unfold framePos at h
  cases hst : u.dpk.st with
  | idle => simp [hst] at h
  | receiveHeader => cases hh : u.dpk.hcnt <;> simp [hst, hh] at h
  | copy => rfl

/-- The wires after LP.PAYLOAD (R94). -/
def withPayload (w : SysWires) : SysWires :=
  { w with dpkSource := { w.dpkSource with
      pay := { w.dpkSource.pay with data := w.dpkSink.pay } } }

/-- The Depacketizer forwards the payload word as it is (R195). -/
theorem withPayload_settled (hset : dpkAccept u (dpkOffer u u.sy) = u.sy)
    (htake : transfers u.sy.dpkSink = true) (hst : u.dpk.st = .copy) :
    withPayload u.sy = u.sy := by
  have htimer := timer_ne_zero_of_transfers hset (by simp [hst]) htake
  obtain ⟨-, -, -, hpay⟩ := hset ▸ dpkOutputs_of_copy (s := u) u.sy hst htimer
  have hdata : { u.sy.dpkSource.pay with data := u.sy.dpkSink.pay } = u.sy.dpkSource.pay := by
    rw [hpay]
  rw [withPayload, hdata]

/-- The word at the position of R95 changes nothing that the Depacketizer's operation has left. -/
theorem step_lp_mid {k : FramePos} (hw : SysStanding u.sy w)
    (hset : dpkAccept u (dpkOffer u u.sy) = u.sy)
    (hpm : u.sy.pm = (u.sy.dpkSink.pay == preamble)) (htake : transfers u.sy.dpkSink = true)
    (hk : framePos u = some k) (hdpk : r.dpk = nextDpk u.cfg u.dpk u.sy) :
    ∃ w', step (midTick u (.lp k :: rest) lw w r) = .next (midTick u rest lw w' r) ∧
      SysStanding u.sy w' := by
  have hword := dpkAfterWord_nextDpk hset htake hk
  rw [← hdpk] at hword
  have hkeeps : midTick u rest lw w { r with dpk := dpkAfterWord u.sy.dpkSink.pay r.dpk k } =
      midTick u rest lw w r := by rw [hword]
  cases k with
  | w0 =>
    have hpay := pay_of_framePos_w0 hk
    have hsettled : { u.sy with pm := true } = u.sy := by
      have hpm : u.sy.pm = true := by rw [hpm, hpay]; rfl
      rw [← hpm]
    exact ⟨{ w with pm := true },
      step_of_selects rfl (selects_lp_w0 _ (hw.sinkPay_eq.trans hpay)),
      hw.driven (drive := fun w => { w with pm := true }) (fun _ => rfl) rfl rfl hsettled⟩
  | w1 | w2 =>
    rw [← hw.sinkPay_eq] at hkeeps
    exact ⟨w, (step_of_selects rfl rfl).trans (congrArg _ hkeeps), hw⟩
  | payload =>
    exact ⟨withPayload w, step_of_selects (i := .lpPayload _) rfl rfl,
      hw.driven (drive := withPayload) (fun _ => rfl) rfl rfl
        (withPayload_settled hset htake (st_of_framePos_payload hk))⟩

theorem runs_frameSite_mid {s : State} (hrun : Runs s (midTick u (frameSite u ++ rest) lw w r))
    (hw : SysStanding u.sy w) (hset : dpkAccept u (dpkOffer u u.sy) = u.sy)
    (hpm : u.sy.pm = (u.sy.dpkSink.pay == preamble))
    (hdpk : r.dpk = nextDpk u.cfg u.dpk u.sy) :
    ∃ w', Runs s (midTick u rest lw w' r) ∧ SysStanding u.sy w' := by
  cases htake : transfers u.sy.dpkSink with
  | false =>
    have hnone : frameSite u = [] := if_neg (by simpa [transfers] using htake)
    rw [hnone] at hrun
    exact ⟨w, hrun, hw⟩
  | true =>
    have hsite : frameSite u = (framePos u).toList.map .lp := if_pos htake
    cases hk : framePos u with
    | none =>
      rw [hsite, hk] at hrun
      exact ⟨w, hrun, hw⟩
    | some k =>
      rw [hsite, hk] at hrun
      exact runs_next_mid hrun (step_lp_mid hw hset hpm htake hk hdpk)

end

/-! ### The system domain -/

/-- The registers after the system domain's part of the tick that opened as `u`, by what the link
domain's part has left in `lbf` and in the cross-domain FIFOs. -/
def regsAfterSys (u : State) (sys : Option SysIn) (l : Lbf) (q q' : Afifo) : Regs :=
  let runs := sys.isSome && !resetsSys sys
  { lbf := l
    pkt := if resetsSys sys then Pkt.reset else if runs then nextPkt u.pkt u.sy else u.pkt
    dpk := if resetsSys sys then Dpk.reset u.cfg
      else if runs then nextDpk u.cfg u.dpk u.sy else u.dpk
    xbar := if resetsSys sys then Xbar.reset
      else if runs then nextXbar u.cfg u.xbar u.sy else u.xbar
    tls := if resetsSys sys then Tls.reset else if runs then nextTls u.cfg u.tls u.sy else u.tls
    tlr := if resetsSys sys then Tlr.reset else if runs then nextTlr u.cfg u.tlr u.sy else u.tlr
    rxq := if resetsSys sys && u.linkHeld then .empty else q
    txq := if resetsSys sys && u.linkHeld then .empty else q' }

section
variable {u : State} {rest : List Site} {lw : LinkWires} {l : Lbf} {q q' : Afifo}

/-- A tick without reset: every component once. -/
theorem runs_sysSites_mid {depth : Nat} {i : SysIn} (hi : i.rst = false)
    (hset : SysSettled u u.sy) (hpm : u.sy.pm = (u.sy.dpkSink.pay == preamble))
    (hidx : u.pkt.st ≠ .insertHeader → u.pkt.hidx = 0) (htls : TlsInv depth u.tls) :
    ∃ w, Runs
        (midTick u (sysSites u i ++ rest) lw u.sy { u.regs with lbf := l, rxq := q, txq := q' })
        (midTick u rest lw w (regsAfterSys u (some i) l q q')) ∧ SysStanding u.sy w := by
  obtain ⟨hdpk, hxd, htlr, htlsOut, hxa, hpkt⟩ := hset
  have hregs : regsAfterSys u (some i) l q q' = ⟨l, nextPkt u.pkt u.sy,
      nextDpk u.cfg u.dpk u.sy, nextXbar u.cfg u.xbar u.sy, nextTls u.cfg u.tls u.sy,
      nextTlr u.cfg u.tlr u.sy, q, q'⟩ := by
    simp [regsAfterSys, resetsSys, hi]
  simp only [sysSites, hi, Bool.false_eq_true, if_false, List.append_assoc, List.cons_append,
    List.nil_append, hregs]
  obtain ⟨w, r, h⟩ := runs_sysChannels_standing (u := u) (lw := lw)
    (rest := .dpk :: (frameSite u ++ .xd :: .tlr :: .tls :: .xa :: .pkt :: rest))
    (r := { u.regs with lbf := l, rxq := q, txq := q' }) u.cfg
  obtain ⟨w, r, h⟩ := runs_next_mid r (step_dpk_mid h rfl hdpk hpm)
  obtain ⟨w, r, h⟩ := runs_frameSite_mid r h hdpk hpm rfl
  obtain ⟨w, r, h⟩ := runs_next_mid r (step_xd_mid h rfl hxd)
  obtain ⟨w, r, h⟩ := runs_next_mid r (step_tlr_mid h rfl htlr)
  obtain ⟨w, r, h⟩ := runs_next_mid r (step_tls_mid h rfl htls htlsOut)
  obtain ⟨w, r, h⟩ := runs_next_mid r (step_xa_mid h rfl hxa)
  obtain ⟨w, r, h⟩ := runs_next_mid r (step_pkt_mid h rfl hidx hpkt)
  exact ⟨w, r, h⟩

/-- The system domain's part of a tick, whether it ticks, and whether it ticks in reset. -/
theorem runs_sys_mid {depth : Nat} {sys : Option SysIn} (hsy : u.sy = sysWiresOf u sys)
    (hidx : u.pkt.st ≠ .insertHeader → u.pkt.hidx = 0) (htls : TlsInv depth u.tls) :
    ∃ w, Runs
        (midTick u (sysSitesOf u sys ++ rest) lw u.sy { u.regs with lbf := l, rxq := q, txq := q' })
        (midTick u rest lw w (regsAfterSys u sys l q q')) ∧ SysStanding u.sy w := by
  cases sys with
  | none => exact ⟨u.sy, .refl _, rfl, by rw [hsy]; rfl, by rw [hsy]; rfl⟩
  | some i =>
    cases hi : i.rst with
    | false =>
      have hsettle : u.sy = settleSys u i := hsy
      exact runs_sysSites_mid hi (hsettle ▸ WireLaws.settledWiresAreAFixedPoint.1 u i hi)
        (hsettle ▸ settleSys_pm hi) hidx htls
    | true =>
      have hoff : u.sy = { SysWires.off with rst := true } := hsy.trans (sysWiresOf_reset u hi)
      have hstep := step_rstSys (s := midTick u (.rstSys :: rest) lw u.sy
        { u.regs with lbf := l, rxq := q, txq := q' }) rfl (congrArg SysWires.rst hoff)
      have hregs : regsAfterSys u (some i) l q q' =
          { Regs.reset u.cfg with
            lbf := l
            rxq := if u.linkHeld then .empty else q
            txq := if u.linkHeld then .empty else q' } := by
        simp [regsAfterSys, resetsSys, hi, Regs.reset]
      rw [sysSitesOf_reset _ hi, hregs]
      refine ⟨{ SysWires.off with rst := true },
        .one rfl (hstep.trans (congrArg _ (resetSysDomain_eq _))) rfl, ?_⟩
      rw [hoff]
      exact ⟨rfl, rfl, rfl⟩

end

/-! ### The link domain -/

section
variable {u : State} {rest : List Site}

/-- The link wires after the operation of one of their channels (R124 to R126). -/
def flagLink (w : LinkWires) : ChanId → LinkWires
  | .linkRx => { w with linkRx := flagXfer (transfers w.linkRx) w.linkRx }
  | .rxqSink => { w with rxqSink := flagXfer (transfers w.rxqSink) w.rxqSink }
  | .txqSource => { w with txqSource := flagXfer (transfers w.txqSource) w.txqSource }
  | .linkTx => { w with linkTx := flagXfer (transfers w.linkTx) w.linkTx }
  | _ => w

theorem flagLink_standing (w : LinkWires) : LinkStanding w (linkChannels.foldl flagLink w) :=
  ⟨rfl, rfl, rfl⟩

theorem step_linkChannel {lw : LinkWires} {w : SysWires} {r : Regs} {d : ChanId}
    (hd : d ∈ linkChannels) : step (midTick u (.ch d :: rest) lw w r) =
      .next (midTick u rest (flagLink lw d) w r) := by
  have hstep := step_ch (s := midTick u (.ch d :: rest) lw w r) rfl
  cases d with
  | linkRx | rxqSink | txqSource | linkTx => exact hstep
  | _ => simp [linkChannels] at hd

/-- The link channels' part of a tick. -/
theorem runs_linkChannels {cs : List ChanId} {lw : LinkWires} {w : SysWires} {r : Regs}
    (hcs : ∀ d ∈ cs, d ∈ linkChannels) : Runs (midTick u (cs.map .ch ++ rest) lw w r)
      (midTick u rest (cs.foldl flagLink lw) w r) := by
  induction cs generalizing lw with
  | nil => exact .refl _
  | cons d cs ih =>
    exact (Runs.one rfl (step_linkChannel (hcs d List.mem_cons_self)) rfl).trans
      (ih fun e he => hcs e (List.mem_cons_of_mem d he))

/-- The registers after the link domain's part of the tick that opened as `u`. -/
def regsAfterLink (u : State) (link : Option LinkIn) : Regs :=
  { u.regs with
    lbf := lbfAfterLink u link
    rxq := if resetsLink link && u.sysHeld then .empty else u.rxq
    txq := if resetsLink link && u.sysHeld then .empty else u.txq }

/-- The link domain's part of a tick, whether it ticks, and whether it ticks in reset. -/
theorem runs_link_mid {link : Option LinkIn} (hlk : u.lk = linkWiresOf u link)
    (ha : u.agenda = linkSitesOf link ++ rest) :
    ∃ lw, Runs u (midTick u rest lw u.sy (regsAfterLink u link)) ∧ LinkStanding u.lk lw := by
  cases link with
  | none =>
    have hsame : midTick u rest u.lk u.sy (regsAfterLink u none) = u := by
      have hagenda : u.agenda = rest := ha
      rw [← hagenda]
      rfl
    exact ⟨u.lk, hsame ▸ .refl u, rfl, by rw [hlk]; rfl, by rw [hlk]; rfl⟩
  | some i =>
    cases hi : i.rst with
    | false =>
      have hsites : linkSitesOf (some i) = linkChannels.map .ch ++ [.lbf] := by
        simp [linkSitesOf, linkSites, hi]
      have hsettled : lbfWires u u.lk = u.lk := by
        rw [hlk]
        exact WireLaws.settledWiresAreAFixedPoint.2 u i hi
      have hregs : regsAfterLink u (some i) = { u.regs with lbf := nextLbf u.cfg u.lbf u.lk } := by
        simp [regsAfterLink, lbfAfterLink, resetsLink, hi, State.regs]
      have hchannels := runs_linkChannels (u := u) (rest := .lbf :: rest) (lw := u.lk) (w := u.sy)
        (r := u.regs) fun d hd => hd
      have hopen : midTick u (linkChannels.map .ch ++ .lbf :: rest) u.lk u.sy u.regs = u := by
        have hagenda : u.agenda = linkChannels.map .ch ++ .lbf :: rest := by
          rw [ha, hsites, List.append_assoc]
          rfl
        rw [← hagenda]
        rfl
      rw [hopen] at hchannels
      have hflags := flagLink_standing u.lk
      generalize linkChannels.foldl flagLink u.lk = lw at hchannels hflags
      have hstep : step (midTick u (.lbf :: rest) lw u.sy u.regs) =
          .next (midTick u rest (lbfWires u lw) u.sy (regsAfterLink u (some i))) := by
        rw [hregs, nextLbf_withoutXfer, ← hflags.wires, ← nextLbf_withoutXfer]
        exact (step_eq_runSite rfl).trans (runSite_lbf _)
      have hwires : (lbfWires u lw).withoutXfer = u.lk.withoutXfer :=
        calc (lbfWires u lw).withoutXfer = lbfWires u lw.withoutXfer := rfl
          _ = (lbfWires u u.lk).withoutXfer := by rw [hflags.wires]; rfl
          _ = u.lk.withoutXfer := by rw [hsettled]
      exact ⟨lbfWires u lw, hchannels.trans (.one rfl hstep rfl), hwires, hflags.rxqSink,
        hflags.txqSource⟩
    | true =>
      have hoff : u.lk = { LinkWires.off with rst := true } := hlk.trans (linkWiresOf_reset u hi)
      rw [linkSitesOf_reset hi] at ha
      have hstep := step_rstLink ha (congrArg LinkWires.rst hoff)
      have hregs : regsAfterLink u (some i) =
          { u.regs with
            lbf := Lbf.reset u.cfg
            rxq := if u.sysHeld then .empty else u.rxq
            txq := if u.sysHeld then .empty else u.txq } := by
        simp [regsAfterLink, lbfAfterLink, resetsLink, hi]
      rw [hregs]
      refine ⟨{ LinkWires.off with rst := true },
        .one ha (hstep.trans (congrArg _ (resetLinkDomain_eq _))) rfl, ?_⟩
      rw [hoff]
      exact ⟨rfl, rfl, rfl⟩

end

end Sys2Proof.TickLaws
end

section
/-! The statement on a whole tick as one simultaneous update: the cross-domain FIFOs, which read the
flags of both domains, and the three parts together. -/

namespace Sys2Proof.TickLaws

open Sys2Proof.Machine Sys2Proof.EventLaws Sys2Proof.DepacketizerLaws

/-! ### The cross-domain FIFOs -/

/-- A FIFO gives and takes the words of a tick: what its channels transfer, it has room and a
visible word for (R133). -/
structure FifoServes (q : Afifo) (depth : Nat) (popped pushed : Bool) : Prop where
  visible : popped = true → sourceValid q = true
  room    : pushed = true → sinkReady q depth = true

theorem FifoServes.nextFifo_eq {q : Afifo} {depth : Nat} {popped pushed : Bool}
    (h : FifoServes q depth popped pushed) (e : Word) :
    nextFifo q (popped && sourceValid q)
        (if pushed && sinkReady q depth then some e else none) =
      nextFifo q popped (if pushed then some e else none) := by
  have hpop : (popped && sourceValid q) = popped := by
    cases popped with
    | false => rfl
    | true => exact h.visible rfl
  have hpush : (pushed && sinkReady q depth) = pushed := by
    cases pushed with
    | false => rfl
    | true => exact h.room rfl
  rw [hpop, hpush]

/-- A FIFO that the resets of the tick have emptied serves a tick in which nothing moves. -/
theorem FifoServes.cleared {q : Afifo} {depth : Nat} {popped pushed cleared : Bool}
    (h : FifoServes q depth popped pushed)
    (hoff : cleared = true → popped = false ∧ pushed = false) :
    FifoServes (if cleared then .empty else q) depth popped pushed := by
  cases cleared with
  | false => exact h
  | true =>
    obtain ⟨rfl, rfl⟩ := hoff rfl
    exact ⟨nofun, nofun⟩

/-- The registers after the two FIFOs of the tick that opened as `u`. -/
def regsAfterFifos (u : State) (r : Regs) : Regs :=
  { r with
    rxq := nextFifo r.rxq (transfers u.sy.dpkSink)
      (if transfers u.lk.rxqSink then some u.lk.rxqSink.pay else none)
    txq := nextFifo r.txq (transfers u.lk.txqSource)
      (if transfers u.sy.pktSource then some u.sy.pktSource.pay.data else none) }

section
variable {u : State} {lw : LinkWires} {w : SysWires} {r : Regs}

/-- The cross-domain FIFOs' part of a tick. -/
theorem runs_fifos_mid (hlw : LinkStanding u.lk lw) (hw : SysStanding u.sy w)
    (hrxq : FifoServes r.rxq u.cfg.rxqDepth (transfers u.sy.dpkSink) (transfers u.lk.rxqSink))
    (htxq : FifoServes r.txq u.cfg.txqDepth (transfers u.lk.txqSource)
      (transfers u.sy.pktSource)) :
    Runs (midTick u fifoSites lw w r) (midTick u [] lw w (regsAfterFifos u r)) := by
  have hrxqPay : lw.rxqSink.pay = u.lk.rxqSink.pay := congrArg (fun w => w.rxqSink.pay) hlw.wires
  have htxqPay : w.pktSource.pay = u.sy.pktSource.pay :=
    congrArg (fun w => w.pktSource.pay) hw.wires
  have hrx : step (midTick u fifoSites lw w r) = .next (midTick u [.fq .txq] lw w
      { r with rxq := (regsAfterFifos u r).rxq }) := by
    simp only [regsAfterFifos]
    rw [← hrxq.nextFifo_eq, ← hw.dpkSink, ← hlw.rxqSink, ← hrxqPay]
    exact step_rxq (s := midTick u fifoSites lw w r) rfl
  have htx : step (midTick u [.fq .txq] lw w { r with rxq := (regsAfterFifos u r).rxq }) =
      .next (midTick u [] lw w (regsAfterFifos u r)) := by
    have htxq' : (regsAfterFifos u r).txq = nextFifo r.txq (lw.txqSource.xfer && sourceValid r.txq)
        (if w.pktSource.xfer && sinkReady r.txq u.cfg.txqDepth then some w.pktSource.pay.data
          else none) := by
      simp only [regsAfterFifos]
      rw [← htxq.nextFifo_eq, ← hlw.txqSource, ← hw.pktSource, ← htxqPay]
    have hregs : regsAfterFifos u r =
        { r with rxq := (regsAfterFifos u r).rxq, txq := (regsAfterFifos u r).txq } := rfl
    rw [hregs, htxq']
    exact step_txq (s := midTick u [.fq .txq] lw w { r with rxq := (regsAfterFifos u r).rxq }) rfl
  exact (Runs.one rfl hrx rfl).trans (.one rfl htx rfl)

end

/-! ### What the channels at the FIFOs transfer -/

section
variable {u : State} {link : Option LinkIn} {sys : Option SysIn}

/-- The link wires move a word only where `rxq` has room and `txq` shows one. -/
theorem link_transfers_served :
    (transfers (linkWiresOf u link).rxqSink = true → sinkReady u.rxq u.cfg.rxqDepth = true) ∧
    (transfers (linkWiresOf u link).txqSource = true → sourceValid u.txq = true) := by
  cases link with
  | none => exact ⟨nofun, nofun⟩
  | some i =>
    cases hi : i.rst with
    | true =>
      rw [linkWiresOf_reset u hi]
      exact ⟨nofun, nofun⟩
    | false =>
      rw [linkWiresOf, LinkBusLaws.settleLink_of_not_rst u i hi]
      exact ⟨fun h => (Bool.and_eq_true_iff.1 h).2, fun h => (Bool.and_eq_true_iff.1 h).1⟩

/-- The system wires move a word only where `rxq` shows one and `txq` has room. -/
theorem sys_transfers_served :
    (transfers (sysWiresOf u sys).dpkSink = true → sourceValid u.rxq = true) ∧
    (transfers (sysWiresOf u sys).pktSource = true → sinkReady u.txq u.cfg.txqDepth = true) := by
  cases sys with
  | none => exact ⟨nofun, nofun⟩
  | some i =>
    cases hi : i.rst with
    | true =>
      rw [sysWiresOf_reset u hi]
      exact ⟨nofun, nofun⟩
    | false =>
      have hready : (settleSys u i).pktSource.ready = sinkReady u.txq u.cfg.txqDepth := by
        rw [WireLaws.settleSys_of_not_rst hi]
        simp only [settleOutbound, tlsAccept, xaAccept, pktAccept, pktOffer]
        cases u.pkt.st <;> rfl
      obtain ⟨-, -, hvalid⟩ := settleSys_pulses (s := u) hi
      exact ⟨fun h => hvalid.symm.trans (Bool.and_eq_true_iff.1 h).1,
        fun h => hready.symm.trans (Bool.and_eq_true_iff.1 h).2⟩

/-- Where no domain ticks with its reset at 0, nothing moves at either cross-domain FIFO. -/
theorem transfers_of_not_runsLow (h : runsLow link sys = false) :
    (transfers (sysWiresOf u sys).dpkSink = false ∧
      transfers (linkWiresOf u link).rxqSink = false) ∧
    (transfers (linkWiresOf u link).txqSource = false ∧
      transfers (sysWiresOf u sys).pktSource = false) := by
  obtain ⟨hlink, hsys⟩ := Bool.or_eq_false_iff.1 h
  obtain ⟨hrxqSink, htxqSource⟩ : transfers (linkWiresOf u link).rxqSink = false ∧
      transfers (linkWiresOf u link).txqSource = false := by
    cases link with
    | none => exact ⟨rfl, rfl⟩
    | some i => rw [linkWiresOf_reset u (by simpa using hlink)]; exact ⟨rfl, rfl⟩
  obtain ⟨hdpkSink, hpktSource⟩ : transfers (sysWiresOf u sys).dpkSink = false ∧
      transfers (sysWiresOf u sys).pktSource = false := by
    cases sys with
    | none => exact ⟨rfl, rfl⟩
    | some i => rw [sysWiresOf_reset u (by simpa using hsys)]; exact ⟨rfl, rfl⟩
  exact ⟨⟨hdpkSink, hrxqSink⟩, htxqSource, hpktSource⟩

end

/-! ### The state in which a tick opens -/

section
variable (s : State) (link : Option LinkIn) (sys : Option SysIn)

@[simp] theorem openTick_lbf : (openTick s link sys).lbf = s.lbf :=
  congrArg Regs.lbf (openTick_regs s link sys)
@[simp] theorem openTick_tlr : (openTick s link sys).tlr = s.tlr :=
  congrArg Regs.tlr (openTick_regs s link sys)
@[simp] theorem openTick_rxq : (openTick s link sys).rxq = s.rxq :=
  congrArg Regs.rxq (openTick_regs s link sys)
@[simp] theorem openTick_txq : (openTick s link sys).txq = s.txq :=
  congrArg Regs.txq (openTick_regs s link sys)
@[simp] theorem openTick_stim : (openTick s link sys).stim = s.stim := by rw [openTick_eq]
@[simp] theorem openTick_now : (openTick s link sys).now = s.now := by rw [openTick_eq]

/-- The wires settle in the state that a tick opens as in the state before it. -/
theorem linkWiresOf_openTick :
    linkWiresOf (openTick s link sys) link = (openTick s link sys).lk := by
  rw [openTick_eq, openTick_lk]
  cases link <;> rfl

theorem sysWiresOf_openTick :
    sysWiresOf (openTick s link sys) sys = (openTick s link sys).sy := by
  rw [openTick_eq, openTick_sy]
  cases sys <;> rfl

/-- A reset empties the cross-domain FIFOs exactly where it finds the other domain held (R319). -/
theorem clearsFifos_eq : clearsFifos s link sys =
    ((resetsLink link && (openTick s link sys).sysHeld) ||
      (resetsSys sys && (openTick s link sys).linkHeld)) := by
  cases hlow : runsLow link sys with
  | false =>
    obtain ⟨hlink, hsys⟩ := openTick_of_resets (s := s) hlow
    rw [clearsFifos, hlow, hlink, hsys]
    rfl
  | true =>
    obtain ⟨hlink, hsys⟩ : (openTick s link sys).linkHeld = false ∧
        (openTick s link sys).sysHeld = false := by
      rw [openTick_eq]
      simp [holdResets, hlow]
    rw [clearsFifos, hlow, hlink, hsys, Bool.and_false, Bool.and_false]
    rfl

end

/-! ### The whole tick -/

section
variable {s : State} {link : Option LinkIn} {sys : Option SysIn}

/-- The registers after all parts of a tick. -/
def regsAfterTick (u : State) (link : Option LinkIn) (sys : Option SysIn) : Regs :=
  let r := regsAfterLink u link
  regsAfterFifos u (regsAfterSys u sys r.lbf r.rxq r.txq)

/-- A cross-domain FIFO after both resets of a tick, if they are any. -/
theorem cleared_twice (a b : Bool) (q : Afifo) :
    (if b then Afifo.empty else if a then .empty else q) = if a || b then .empty else q := by
  cases a <;> cases b <;> rfl

/-- The parts of a tick, one after the other. -/
theorem runs_tick {u : State} (hu : Underway u) (hlk : u.lk = linkWiresOf u link)
    (hsy : u.sy = sysWiresOf u sys)
    (ha : u.agenda = linkSitesOf link ++ (sysSitesOf u sys ++ fifoSites))
    (hclears : (resetsLink link && u.sysHeld || resetsSys sys && u.linkHeld) = true →
      runsLow link sys = false) :
    ∃ lw w, Runs u (midTick u [] lw w (regsAfterTick u link sys)) := by
  obtain ⟨lw, hlink, hlw⟩ := runs_link_mid hlk ha
  obtain ⟨w, hsys, hw⟩ := runs_sys_mid (rest := fifoSites) (lw := lw)
    (l := (regsAfterLink u link).lbf) (q := (regsAfterLink u link).rxq)
    (q' := (regsAfterLink u link).txq) hsy hu.hidx hu.tls
  obtain ⟨hroom, hshown⟩ := hlk ▸ link_transfers_served (u := u) (link := link)
  obtain ⟨hvisible, hfree⟩ := hsy ▸ sys_transfers_served (u := u) (sys := sys)
  have hoff := fun h => hsy ▸ hlk ▸ transfers_of_not_runsLow (u := u) (hclears h)
  refine ⟨lw, w, hlink.trans (hsys.trans (runs_fifos_mid hlw hw ?_ ?_))⟩
  · simp only [regsAfterSys, regsAfterLink, cleared_twice]
    exact FifoServes.cleared ⟨hvisible, hroom⟩ fun h => (hoff h).1
  · simp only [regsAfterSys, regsAfterLink, cleared_twice]
    exact FifoServes.cleared ⟨hshown, hfree⟩ fun h => (hoff h).2

/-- Where the resets of a tick empty the cross-domain FIFOs, neither domain ticks with its reset at
0. -/
theorem not_runsLow_of_clearsFifos (h : clearsFifos s link sys = true) :
    runsLow link sys = false := by
  simpa using (Bool.and_eq_true_iff.1 h).1

theorem lbfAfterLink_eq (u : State) : lbfAfterLink u link =
    if resetsLink link then Lbf.reset u.cfg
    else if link.isSome then nextLbf u.cfg u.lbf u.lk else u.lbf := by
  cases link with
  | none => rfl
  | some i => simp [lbfAfterLink, resetsLink]

/-- An emptied FIFO is left empty by a tick in which nothing moves. -/
theorem nextFifo_cleared {q : Afifo} {popped pushed cleared : Bool} (e : Word)
    (hoff : cleared = true → popped = false ∧ pushed = false) :
    nextFifo (if cleared then .empty else q) popped (if pushed then some e else none) =
      if cleared then .empty else nextFifo q popped (if pushed then some e else none) := by
  cases cleared with
  | false => rfl
  | true =>
    obtain ⟨rfl, rfl⟩ := hoff rfl
    rfl

/-- The parts of the tick that opens add up to the pure function of the tick. -/
theorem regsAfterTick_openTick :
    regsAfterTick (openTick (opening s) link sys) link sys = tickRegs s link sys := by
  have hoff := fun h => transfers_of_not_runsLow (u := opening s)
    (not_runsLow_of_clearsFifos (s := opening s) (link := link) (sys := sys) h)
  have hrxq := nextFifo_cleared (q := s.rxq) (linkWiresOf (opening s) link).rxqSink.pay
    fun h => (hoff h).1
  have htxq := nextFifo_cleared (q := s.txq) (sysWiresOf (opening s) sys).pktSource.pay.data
    fun h => (hoff h).2
  simp only [regsAfterTick, regsAfterFifos, regsAfterSys, regsAfterLink, cleared_twice,
    ← clearsFifos_eq, lbfAfterLink_eq, openTick_cfg, openTick_lbf, openTick_pkt, openTick_dpk,
    openTick_xbar, openTick_tls, openTick_tlr, openTick_rxq, openTick_txq, openTick_lk,
    openTick_sy]
  exact congrArg₂ (Regs.mk _ _ _ _ _ _) hrxq htxq

/-- Settles O49: each site finds its registers as the tick found them and the wires as they settled,
so the order in which the sites execute is immaterial. -/
theorem tickIsOneSimultaneousUpdate : Obligations.TickIsOneSimultaneousUpdate := by
  intro s link sys hinv h
  have hready := Ready.ofInv hinv h
  obtain ⟨lw, w, hrun⟩ := runs_tick (hready.underway.opening.openTick link sys)
    (linkWiresOf_openTick (opening s) link sys).symm (sysWiresOf_openTick (opening s) link sys).symm
    (openTick_agenda link sys)
    fun hc => not_runsLow_of_clearsFifos ((clearsFifos_eq (opening s) link sys).trans hc)
  exact ⟨_, perform_tick hinv.admitted h hrun rfl, regsAfterTick_openTick,
    openTick_cfg (opening s) link sys, rfl, openTick_started (opening s) link sys,
    openTick_stim (opening s) link sys, openTick_now (opening s) link sys⟩

end

end Sys2Proof.TickLaws
end

section
/-! The statement on quiescence: on quiet wires every next-state function keeps what makes the core
quiescent. -/

namespace Sys2Proof.TickLaws

open Sys2Proof.Machine Sys2Proof.EventLaws Sys2Proof.WireLaws

/-! ### Quiet wires -/

/-- No system channel that a register depends on offers a word. -/
structure SysQuiet (w : SysWires) : Prop where
  dpkSink   : w.dpkSink.valid = false
  dpkSource : w.dpkSource.valid = false
  inPorts   : ∀ i, (portChan w.inPorts i).valid = false
  tlpTxIn   : w.tlpTxIn.valid = false
  outPorts  : ∀ i, (portChan w.outPorts i).valid = false
  mTx       : w.mTx.valid = false
  pktSource : w.pktSource.valid = false

/-- Neither cross-domain FIFO gets a word from the link, nor gives one to it. -/
structure LinkQuiet (w : LinkWires) : Prop where
  rxqSink   : w.rxqSink.valid = false
  txqSource : w.txqSource.valid = false

theorem transfers_of_not_valid {α : Type} {c : Chan α} (h : c.valid = false) :
    transfers c = false := by
  rw [transfers, h, Bool.false_and]

section
variable {s : State} {link : Option LinkIn} {sys : Option SysIn}

/-- An empty FIFO shows no word (R131). -/
theorem sourceValid_of_empty {q : Afifo} {depth : Nat} (h : q.wf depth = true)
    (hempty : q.items = []) : sourceValid q = false := by
  refine Bool.eq_false_iff.2 fun hvisible => ?_
  obtain ⟨w, ws, hitems⟩ := Afifo.items_of_visible h hvisible
  simp [hempty] at hitems

/-- A quiescent core with idle inputs offers nothing in the system domain. -/
theorem sysQuiet_of_quiescent (hinv : Inv s) (hq : Quiescent s)
    (hsys : ∀ y, sys = some y → sysIdle y) : SysQuiet (sysWiresOf (opening s) sys) := by
  have hport : ∀ i, (portChan [] i).valid = false := fun i => by
    rw [portChan_of_length_le (Nat.zero_le i)]
    rfl
  cases sys with
  | none => exact ⟨rfl, rfl, hport, rfl, hport, rfl, rfl⟩
  | some y =>
    obtain ⟨hrxq, -, -, hpkt, hdpk, htls, -, -, -⟩ := hq
    obtain ⟨hrst, hlane, -⟩ := hsys y rfl
    obtain ⟨-, -, hvisible⟩ := settleSys_pulses (s := opening s) hrst
    have hset := settledWiresAreAFixedPoint.1 (opening s) y hrst
    have hsource := dpkSource_valid_of_idle hset hdpk
    have houtPorts := outPorts_valid_of_idle (s := opening s) (hsys y rfl) htls
    have htlpTxIn : (settleSys (opening s) y).tlpTxIn.valid = false := by
      rw [settleSys_of_not_rst hrst]
      exact hlane
    exact {
      dpkSink := hvisible.trans (sourceValid_of_empty hinv.rxq hrxq)
      dpkSource := hsource
      inPorts := inPorts_valid_of_not_valid hset hsource
      tlpTxIn := htlpTxIn
      outPorts := houtPorts
      mTx := (mTx_valid_eq hset).trans (houtPorts _)
      pktSource := (pkt_off_of_idle hset hpkt).1 }

theorem linkQuiet_of_quiescent (hinv : Inv s) (hq : Quiescent s)
    (hlink : ∀ l, link = some l → linkIdle l) : LinkQuiet (linkWiresOf (opening s) link) := by
  cases link with
  | none => exact ⟨rfl, rfl⟩
  | some l =>
    obtain ⟨-, htxq, -⟩ := hq
    obtain ⟨hrst, hvalid⟩ := hlink l rfl
    rw [linkWiresOf, LinkBusLaws.settleLink_of_not_rst _ _ hrst]
    have hoffered : (lbfWires (opening s) (linkInputs (opening s) l)).rxqSink.valid =
        (inRxWindow s && l.rxValid) := rfl
    exact ⟨by rw [hoffered, hvalid, Bool.and_false], sourceValid_of_empty hinv.txq htxq⟩

end

/-! ### Registers on quiet wires -/

section
variable {w : SysWires} (h : SysQuiet w)
include h

/-- PKT.IDLE_WAIT (R174). -/
theorem SysQuiet.nextPkt_eq {p : Pkt} (hst : p.st = .idle) : nextPkt p w = p := by
  simp [nextPkt, hst, h.mTx]

/-- DPK.IDLE_WAIT (R197). -/
theorem SysQuiet.nextDpk_of_idle {d : Dpk} (c : Cfg) (hst : d.st = .idle) :
    (nextDpk c d w).st = .idle ∧ (nextDpk c d w).abortCount = d.abortCount := by
  simp [nextDpk, hst, h.dpkSink]

/-- TLS.FILL_WAIT (R266). -/
theorem SysQuiet.nextTls_eq {t : Tls} (c : Cfg) (hst : t.st = .fill) : nextTls c t w = t := by
  simp [nextTls, hst, h.tlpTxIn]

/-- TLR.IDLE (R294). -/
theorem SysQuiet.nextTlr_eq (t : Tlr) (c : Cfg) : nextTlr c t w = t := by
  simp [nextTlr, h.inPorts]

/-- XD.IDLE and XA.PARK (R233, R241). -/
theorem SysQuiet.nextXbar_keeps (x : Xbar) (c : Cfg) :
    (nextXbar c x w).locked = x.locked ∧ (nextXbar c x w).unroutedCount = x.unroutedCount := by
  simp [nextXbar, h.outPorts, h.dpkSource]

end

section
variable {s : State} {link : Option LinkIn} {sys : Option SysIn}
  (hlink : resetsLink link = false) (hsys : resetsSys sys = false)
include hlink hsys

/-- The pure function of a tick in which no domain is reset. -/
theorem tickRegs_of_not_reset :
    let lw := linkWiresOf (opening s) link
    let sw := sysWiresOf (opening s) sys
    tickRegs s link sys =
      { lbf := if link.isSome then nextLbf s.cfg s.lbf lw else s.lbf
        pkt := if sys.isSome then nextPkt s.pkt sw else s.pkt
        dpk := if sys.isSome then nextDpk s.cfg s.dpk sw else s.dpk
        xbar := if sys.isSome then nextXbar s.cfg s.xbar sw else s.xbar
        tls := if sys.isSome then nextTls s.cfg s.tls sw else s.tls
        tlr := if sys.isSome then nextTlr s.cfg s.tlr sw else s.tlr
        rxq := nextFifo s.rxq (transfers sw.dpkSink)
          (if transfers lw.rxqSink then some lw.rxqSink.pay else none)
        txq := nextFifo s.txq (transfers lw.txqSource)
          (if transfers sw.pktSource then some sw.pktSource.pay.data else none) } := by
  simp only [tickRegs, clearsFifos, hlink, hsys, Bool.false_and, Bool.or_false, Bool.and_false,
    Bool.not_false, Bool.and_true, Bool.false_eq_true, if_false]
  rfl

/-- A tick on quiet wires keeps the FIFOs, the counters and all that R14 speaks of. -/
theorem regs_of_quiet_tick {t : State} (hregs : t.regs = tickRegs s link sys) (hq : Quiescent s)
    (hlw : LinkQuiet (linkWiresOf (opening s) link))
    (hw : SysQuiet (sysWiresOf (opening s) sys)) :
    Quiescent t ∧ t.rxq = s.rxq ∧ t.txq = s.txq ∧ t.xbar.unroutedCount = s.xbar.unroutedCount ∧
      t.dpk.abortCount = s.dpk.abortCount := by
  obtain ⟨hrxqEmpty, htxqEmpty, htlsEmpty, hpktIdle, hdpkIdle, htlsFill, hzero, hlow, hfree⟩ := hq
  rw [tickRegs_of_not_reset hlink hsys] at hregs
  simp only [hw.nextPkt_eq hpktIdle, hw.nextTls_eq s.cfg htlsFill, hw.nextTlr_eq, ite_self,
    transfers_of_not_valid hw.dpkSink, transfers_of_not_valid hw.pktSource,
    transfers_of_not_valid hlw.rxqSink, transfers_of_not_valid hlw.txqSource] at hregs
  obtain ⟨-, hpkt, hdpk, hxbar, htls, htlr, hrxq, htxq⟩ := Regs.mk.inj hregs
  obtain ⟨hst, habort⟩ : t.dpk.st = .idle ∧ t.dpk.abortCount = s.dpk.abortCount := by
    rw [hdpk]
    split
    · exact hw.nextDpk_of_idle s.cfg hdpkIdle
    · exact ⟨hdpkIdle, rfl⟩
  obtain ⟨hlocked, hcount⟩ : t.xbar.locked = s.xbar.locked ∧
      t.xbar.unroutedCount = s.xbar.unroutedCount := by
    rw [hxbar]
    split
    · exact hw.nextXbar_keeps s.xbar s.cfg
    · exact ⟨rfl, rfl⟩
  refine ⟨?_, hrxq, htxq, hcount, habort⟩
  rw [Quiescent, hpkt, htls, htlr, hlocked, show t.rxq = s.rxq from hrxq,
    show t.txq = s.txq from htxq]
  exact ⟨hrxqEmpty, htxqEmpty, htlsEmpty, hpktIdle, hst, htlsFill, hzero, hlow, hfree⟩

end

/-- Settles O51: with idle inputs the wires of a quiescent core are quiet. -/
theorem quiescenceIsStable : Obligations.QuiescenceIsStable := by
  intro s l y link sys hinv h hq hl hy hlink hsys
  have hlinkIdle : ∀ l', link = some l' → linkIdle l' := by
    rintro l' rfl
    obtain rfl : l' = l := by simpa using hlink
    exact hl
  have hsysIdle : ∀ y', sys = some y' → sysIdle y' := by
    rintro y' rfl
    obtain rfl : y' = y := by simpa using hsys
    exact hy
  have hlinkRuns : resetsLink link = false := by
    cases link with
    | none => rfl
    | some l' => exact (hlinkIdle l' rfl).1
  have hsysRuns : resetsSys sys = false := by
    cases sys with
    | none => rfl
    | some y' => exact (hsysIdle y' rfl).1
  obtain ⟨t, ht, hregs, -⟩ := tickIsOneSimultaneousUpdate s link sys hinv h
  exact ⟨t, ht, regs_of_quiet_tick hlinkRuns hsysRuns hregs hq
    (linkQuiet_of_quiescent hinv hq hlinkIdle) (sysQuiet_of_quiescent hinv hq hsysIdle)⟩

end Sys2Proof.TickLaws
end
